-- ==== Sys2Proof/Word.lean ====
section
/-! DEFINITION. Bytes, and the two fixed collections of the part: four of a thing (one per output)
and three of a thing (one per frame buffer). -/

namespace Sys2Proof

/-- One byte on the serial line (R169). -/
abbrev Byte := BitVec 8

/-- One of the four outputs, numbered 0 to 3 (00_scope.md, block overview). -/
abbrev Output := Fin 4

/-- One of the three frame buffers, numbered 0 to 2 (R21). -/
abbrev BufNo := Fin 3

/-- One of the eight profiles, numbered 0 to 7 (R153). -/
abbrev ProfileNo := Fin 8

/-- One item for each of the four outputs. -/
structure Four (α : Type) where
  o0 : α
  o1 : α
  o2 : α
  o3 : α
  deriving DecidableEq, Repr, Inhabited

def Four.get {α : Type} (f : Four α) (k : Output) : α :=
  match k with
  | 0 => f.o0
  | 1 => f.o1
  | 2 => f.o2
  | 3 => f.o3

def Four.set {α : Type} (f : Four α) (k : Output) (x : α) : Four α :=
  match k with
  | 0 => { f with o0 := x }
  | 1 => { f with o1 := x }
  | 2 => { f with o2 := x }
  | 3 => { f with o3 := x }

def Four.all {α : Type} (x : α) : Four α := ⟨x, x, x, x⟩

def Four.map {α β : Type} (g : α → β) (f : Four α) : Four β := ⟨g f.o0, g f.o1, g f.o2, g f.o3⟩

def Four.mapIdx {α β : Type} (g : Output → α → β) (f : Four α) : Four β :=
  ⟨g 0 f.o0, g 1 f.o1, g 2 f.o2, g 3 f.o3⟩

def Four.toList {α : Type} (f : Four α) : List α := [f.o0, f.o1, f.o2, f.o3]

/-- One item for each of the three frame buffers. -/
structure Three (α : Type) where
  b0 : α
  b1 : α
  b2 : α
  deriving DecidableEq, Repr, Inhabited

def Three.get {α : Type} (t : Three α) (b : BufNo) : α :=
  match b with
  | 0 => t.b0
  | 1 => t.b1
  | 2 => t.b2

def Three.set {α : Type} (t : Three α) (b : BufNo) (x : α) : Three α :=
  match b with
  | 0 => { t with b0 := x }
  | 1 => { t with b1 := x }
  | 2 => { t with b2 := x }

def Three.all {α : Type} (x : α) : Three α := ⟨x, x, x⟩

def Three.map {α β : Type} (g : α → β) (t : Three α) : Three β := ⟨g t.b0, g t.b1, g t.b2⟩

/-- The buffers in the order R23 looks through them. -/
def bufNos : List BufNo := [0, 1, 2]

/-- The outputs in order (R137). -/
def outputs : List Output := [0, 1, 2, 3]

end Sys2Proof
end

