-- ==== Sys2Proof/Syntax.lean ====
section
/-! DEFINITION. The commands of the part: one constructor of `Instr` per row of
spec/opcode_table.json, with the operands the event brings. -/

namespace Sys2Proof

/-- A taker of a presentation frame start (R35). `write` is the start of an input frame write, which
coincides with the start only at an alignment point (R11, R24). -/
inductive Taker where
  | frameStore
  | channel (k : Output)
  | bank
  | master
  | acquisition
  | probe
  | write
  deriving DecidableEq, Repr

/-- What the part senses at an event: the four LINK_GOOD levels (R106), the rate straps (R169), and
the order in which the blocks take a presentation frame start that the event brings (log 1, 2). -/
structure Env where
  link   : Four Bool
  straps : BitVec 2
  order  : List Taker
  deriving DecidableEq, Repr

/-- The input codes of one pixel (R1). -/
structure InputPixel where
  r : BitVec 12
  g : BitVec 12
  b : BitVec 12
  deriving DecidableEq, Repr

/-- An input frame as the port delivers it by its frame end (R1, log 8): the number of active pixels
of each active line, the codes of its pixels as one background and the pixels that differ from it. -/
structure InputFrame where
  lines      : List Nat
  background : InputPixel
  pixels     : List (Nat × Nat × InputPixel)
  deriving DecidableEq, Repr

/-- A complete request frame: code, tag and body (R170). -/
structure Frame where
  code : Byte
  tag  : Byte
  body : List Byte
  deriving DecidableEq, Repr

/-- The two errors that FRAME_RECEIVE_ERROR reports (R171). -/
inductive ReceiveError where
  | oversize
  | badStopBit
  deriving DecidableEq, Repr

/-- How a profile area reads: blank, its check passes, or its check fails (R154). -/
inductive AreaReading where
  | blank
  | passes
  | fails
  deriving DecidableEq, Repr

/-- One part of the start-up scan: the directory, with the check of each copy, or the next profile
area (R154, R156). -/
inductive ScanReading where
  | directory (pass0 pass1 : Bool)
  | area (reading : AreaReading)
  deriving DecidableEq, Repr

/-- The commands, in the order of spec/opcode_table.json. -/
inductive Instr where
  | resetN (straps : BitVec 2)
  | wakeN (env : Env)
  | inputValidFall
  | inputFrameStart (valid : Bool) (time : Nat) (env : Env)
  | inputFrameEnd (valid : Bool) (frame : InputFrame)
  | inputLossGuardExpiry
  | acquisitionTimerExpiry
  | holdTimerExpiry
  | presentationFrameStart (env : Env)
  | copyBackCompletion
  | loadCompletion (good : Bool)
  | storeCompletion (verified written : Bool)
  | eraseCompletion (blank written : Bool)
  | directoryCompletion (written : Bool)
  | scanCompletion
  | interByteGapExpiry
  | frameReceiveError (error : ReceiveError)
  | requestFrameDiscard (frame : Frame) (env : Env)
  | replyTransmitEnd (env : Env)
  | unknownRequest (code tag : Byte) (body : List Byte) (env : Env)
  | identify (tag : Byte) (body : List Byte)
  | reset (tag : Byte) (body : List Byte)
  | status (tag : Byte) (body : List Byte)
  | fetch (tag : Byte) (body : List Byte)
  | setMask (tag : Byte) (body : List Byte)
  | standby (tag : Byte) (body : List Byte)
  | wake (tag : Byte) (body : List Byte) (env : Env)
  | setInputControl (tag : Byte) (body : List Byte)
  | acceptInput (tag : Byte) (body : List Byte)
  | setFreePeriod (tag : Byte) (body : List Byte)
  | setMaster (tag : Byte) (body : List Byte)
  | readCounters (tag : Byte) (body : List Byte)
  | setSlipThreshold (tag : Byte) (body : List Byte)
  | outputEnable (tag : Byte) (body : List Byte)
  | outputDisable (tag : Byte) (body : List Byte)
  | outputRejoin (tag : Byte) (body : List Byte)
  | setOutputControl (tag : Byte) (body : List Byte)
  | writeScene (tag : Byte) (body : List Byte)
  | writeLayout (tag : Byte) (body : List Byte)
  | writeMesh (tag : Byte) (body : List Byte)
  | readMesh (tag : Byte) (body : List Byte)
  | writeCoverage (tag : Byte) (body : List Byte)
  | writeTone (tag : Byte) (body : List Byte)
  | writeTable (tag : Byte) (body : List Byte)
  | commit (tag : Byte) (body : List Byte)
  | disarm (tag : Byte) (body : List Byte)
  | revert (tag : Byte) (body : List Byte)
  | readBankInfo (tag : Byte) (body : List Byte)
  | probe (tag : Byte) (body : List Byte)
  | probeRead (tag : Byte) (body : List Byte)
  | profileLoad (tag : Byte) (body : List Byte)
  | profileStore (tag : Byte) (body : List Byte)
  | profileErase (tag : Byte) (body : List Byte)
  | profileSetBoot (tag : Byte) (body : List Byte)
  | profileList (tag : Byte) (body : List Byte)
  | rxdByteReceived (byte : Byte) (env : Env)
  | requestWaitsInHoldingBuffer (frame : Frame) (env : Env)
  | profileAreaExamined (reading : ScanReading)
  | directoryWriteBegin
  deriving DecidableEq, Repr

end Sys2Proof
end

