-- ==== Sys2Proof/Decode.lean ====
section
/-! DEFINITION. The commands a table word spells. No row of spec/opcode_table.json gives bits, so no
word spells a command; request frames are read by Sys2Proof/Machine/Link.lean (R170, R178). -/

namespace Sys2Proof

/-- The command that an opcode-table word spells: none, since the table gives no row any bits. -/
def decodeTableWord (_nbits _w : Nat) : Option Instr := none

end Sys2Proof
end

