-- ==== Sys2Proof/Config.lean ====
section
/-! DEFINITION. What the manual fixes as numbers, and the free values: constants with no body for
what the manual leaves open. -/

namespace Sys2Proof.Config

/-- R7, R37: the shortest presentation period, ns. -/
abbrev minPeriod : Nat := 8000000
/-- R7, R37: the longest presentation period, ns. -/
abbrev maxPeriod : Nat := 42000000
/-- R34: the presentation period after reset, ns. -/
abbrev resetPeriod : Nat := 16666667
/-- R4: the input loss guard, ns. -/
abbrev guardLimit : Nat := 50000000
/-- R18: the longest hold time, ms. -/
abbrev maxHold : Nat := 10000
/-- R13: good pairs that enter LOCKED. -/
abbrev lockPairs : Nat := 8
/-- R14: bad pairs that leave LOCKED. -/
abbrev unlockPairs : Nat := 2
/-- 00_scope.md, units: one, in parts of 4096. -/
abbrev one : Nat := 4096
/-- R43: point records, and degrade flags, of one mesh. -/
abbrev meshRecords : Nat := 1200
/-- R84, R86: entries of a decode or encode table. -/
abbrev tableEntries : Nat := 257
/-- R45: least and greatest mesh coordinate, in sixteenths. -/
abbrev minCoord : Int := -16384
abbrev maxCoord : Int := 81919
/-- R45: greatest mesh gain. -/
abbrev maxMeshGain : Nat := 2048
/-- R128: ranges of the scene sizes. -/
abbrev minWidth : Nat := 640
abbrev minHeight : Nat := 360
abbrev maxCanvasW : Nat := 4096
abbrev maxCanvasH : Nat := 2304
abbrev maxRasterW : Nat := 3840
abbrev maxRasterH : Nat := 2160
/-- R64: greatest feather. -/
abbrev maxFeather : Nat := 2048
/-- R88: greatest colour gain and greatest black floor. -/
abbrev maxToneGain : Nat := 8191
abbrev maxFloor : Nat := 1023
/-- R65: greatest lift ceiling. -/
abbrev maxCeiling : Nat := 4
/-- R86, R103: greatest output code. -/
abbrev maxCode : Nat := 4095
/-- Units: greatest linear value. -/
abbrev maxLinear : Nat := 65535
/-- R184: the records the indication queue holds. -/
abbrev queueRoom : Nat := 32
/-- R185: the records one FETCH returns. -/
abbrev fetchRoom : Nat := 8
/-- R170: the longest request body. -/
abbrev maxBody : Nat := 1024
/-- R188: the device code and the design step. -/
abbrev deviceCode : Nat := 0x0B04
abbrev designStep : Nat := 1

/-- FREE VALUE (log 15, R48, R135): at read number `n`, whether the copy or load has already reached
field number `i` of the pending bank. -/
opaque copyReached : (n i : Nat) → Bool

/-- FREE VALUE (log 16, R151): after failed load number `n`, whether field number `i` of the pending
bank holds the loaded value. -/
opaque loadReached : (n i : Nat) → Bool

/-- FREE VALUE (log 14, R156): at reply number `n`, byte `i` of the fields an EMPTY profile has not. -/
opaque absentByte : (n i : Nat) → Byte

/-- FREE VALUES (log 13, R154, R162): the header that a half-blanked profile area reads as. -/
opaque blankedRevision : (n : Nat) → BitVec 16
opaque blankedWidth : (n : Nat) → BitVec 16
opaque blankedHeight : (n : Nat) → BitVec 16
opaque blankedLabel : (n : Nat) → List Byte

end Sys2Proof.Config
end

