-- ==== Sys2Proof/Machine/State.lean ====
section
/-! DEFINITION. The state of the part as plain data, block by block as 00_scope.md names them, and
its value after reset. -/

namespace Sys2Proof.Machine

/-! ### Enumerations (R176) -/

/-- Section 1.2. -/
inductive AcqState where
  | noSignal | measuring | unsupported | mismatch | awaitAccept | locking | locked
  deriving DecidableEq, Repr

/-- R18. -/
inductive AcqLimit where
  | off | four | ten
  deriving DecidableEq, Repr

/-- Section 1.4: the six cadence pairs. -/
inductive Cadence where
  | c11 | c21 | c31 | c41 | c52 | c51
  deriving DecidableEq, Repr

/-- R36. -/
inductive TimerMode where
  | free | follow
  deriving DecidableEq, Repr

/-- R103. -/
inductive ChanState where
  | disabled | acquiring | active | retiring | lost | parked
  deriving DecidableEq, Repr

/-- R104. -/
inductive Cause where
  | host | linkLost | linkBack | settled | rampDone | standby
  deriving DecidableEq, Repr

/-- R116. -/
inductive Policy where
  | refill | hold | allBlack
  deriving DecidableEq, Repr

/-- R118. -/
inductive PathMode where
  | normal | flatWarp | unblended | pattern
  deriving DecidableEq, Repr

/-- R120. -/
inductive PatternKind where
  | grid | dots | flat
  deriving DecidableEq, Repr

/-- R131. -/
inductive PendState where
  | editable | armed | syncing | loading
  deriving DecidableEq, Repr

/-- R163. -/
inductive PartMode where
  | startup | setup | run | dimming | standby
  deriving DecidableEq, Repr

/-- R163: the remembered mode is RUN or SETUP. -/
inductive HomeMode where
  | run | setup
  deriving DecidableEq, Repr

/-- R176: the operation of a PROFILE_DONE. -/
inductive ProfileOp where
  | load | store | erase | setBoot | boot
  deriving DecidableEq, Repr

/-- R176: the result of a PROFILE_DONE. -/
inductive ProfileResult where
  | ok | failed | badCheck
  deriving DecidableEq, Repr

/-- R175. -/
inductive Status where
  | ok | clamped | busy | armed | stale | badArgument | badLength | unknownRequest | invalid
  | noProfile | unsound | wrongState | starting
  deriving DecidableEq, Repr

/-! ### Input Acquisition Controller (Chapter 1) -/

/-- R1: a complete frame's record. -/
structure FrameRecord where
  width  : Nat
  height : Nat
  period : Nat
  deriving DecidableEq, Repr

/-- R18. -/
structure InputControls where
  breakpoint : Bool
  limit      : AcqLimit
  cadence    : Cadence
  hold       : Nat
  deriving DecidableEq, Repr

/-- R23, R24: the write of the input frame in progress: its buffer and the decode table fixed at its
input frame start. -/
structure FrameWrite where
  buf   : BufNo
  table : List Nat
  deriving DecidableEq, Repr

/-- R1: the input frame in progress, its size once its frame end has come. -/
structure InFrame where
  start : Nat
  size  : Option (Nat × Nat)
  write : Option FrameWrite
  deriving DecidableEq, Repr

structure Acquisition where
  state       : AcqState
  window      : List FrameRecord
  measured    : Option FrameRecord
  controls    : InputControls
  target      : Option Nat
  good        : Nat
  bad         : Nat
  waitCadence : Option Nat
  waitStart   : Option Nat
  alignDue    : Bool
  sinceCadence : Nat
  lastCadence : Option (BitVec 40)
  prevCadence : Option (BitVec 40)
  frame       : Option InFrame
  acqTimer    : Option AcqLimit
  holdTimer   : Option Nat
  deriving DecidableEq, Repr

/-! ### Frame Store Controller, Presentation Timer, Master Level unit (Chapter 2) -/

/-- R21: a buffer record; frame number and decode revision are present unless EMPTY. -/
inductive BufRec where
  | empty
  | filling (number : BitVec 40) (revision : BitVec 16)
  | complete (number : BitVec 40) (revision : BitVec 16)
  | showing (number : BitVec 40) (revision : BitVec 16)
  deriving DecidableEq, Repr

/-- Three colour values. -/
structure Rgb where
  r : Nat
  g : Nat
  b : Nat
  deriving DecidableEq, Repr

/-- The linear values of one frame buffer (R21, log 8, 9): the pixels listed by key, strictly
rising, none equal to the fill, and the fill that every unlisted pixel holds. -/
structure Picture where
  fill  : Rgb
  cells : List (Nat × Rgb)
  deriving DecidableEq, Repr

structure FrameStore where
  bufs      : Three BufRec
  mem       : Three Picture
  counter   : BitVec 40
  base      : Option (BitVec 40)
  slips     : Nat
  threshold : Nat
  armed     : Bool
  deriving DecidableEq, Repr

structure Timer where
  mode      : TimerMode
  running   : Bool
  current   : Nat
  staged    : Nat
  free      : Nat
  position  : Nat
  counter   : BitVec 32
  lastStart : Nat
  deriving DecidableEq, Repr

structure Master where
  level  : Nat
  target : Nat
  step   : Nat
  mute   : Bool
  deriving DecidableEq, Repr

/-! ### Output Channels (Chapter 6) -/

/-- R103: from loss confirm to pattern level. -/
structure OutputControls where
  lossConfirm : Nat
  settle      : Nat
  rise        : Nat
  fall        : Nat
  policy      : Policy
  autoRejoin  : Bool
  path        : PathMode
  kind        : PatternKind
  level       : Nat
  deriving DecidableEq, Repr

/-- R119: what a port carries for a frame. -/
inductive PortContent where
  | code0
  | pattern (kind : PatternKind) (level : Nat)
  | computed
  deriving DecidableEq, Repr

/-- R103, and the values the frame in progress uses (R105, R110). -/
structure Channel where
  state         : ChanState
  presence      : Nat
  goodRun       : Nat
  badRun        : Nat
  controls      : OutputControls
  framePresence : Nat
  framePath     : PathMode
  port          : PortContent
  deriving DecidableEq, Repr

/-! ### Banks (Chapters 3, 4, 5, 7) -/

/-- R45. -/
structure Point where
  sx : Int
  sy : Int
  m  : Nat
  deriving DecidableEq, Repr

/-- R64. -/
structure Coverage where
  left    : Nat
  right   : Nat
  top     : Nat
  bottom  : Nat
  fLeft   : Nat
  fRight  : Nat
  fTop    : Nat
  fBottom : Nat
  deriving DecidableEq, Repr

/-- R88: colour gains and black floors. -/
structure Tone where
  gain  : Rgb
  floor : Rgb
  deriving DecidableEq, Repr

/-- R127: what a bank holds for one output, but for the degrade flags. -/
structure OutputScene where
  pitch    : Nat
  points   : List Point
  coverage : Coverage
  tone     : Tone
  encode   : List Nat
  deriving DecidableEq, Repr

/-- Section 7.1: a whole scene bank but for the degrade flags, which is what a profile stores
(R153). -/
structure Scene where
  canvasW : Nat
  canvasH : Nat
  rasterW : Nat
  rasterH : Nat
  ceiling : Nat
  decode  : List Nat
  outs    : Four OutputScene
  deriving DecidableEq, Repr

/-- R43, R127: a bank store: the scene and the 1200 degrade flags of each mesh. -/
structure BankStore where
  scene : Scene
  flags : Four (List Bool)
  deriving DecidableEq, Repr

structure Banks where
  store0      : BankStore
  store1      : BankStore
  activeIsOne : Bool
  revision    : BitVec 16
  pendState   : PendState
  deriving DecidableEq, Repr

/-! ### Profiles (Chapter 8) -/

/-- R153: the fields an entry that is not EMPTY carries beside its state. -/
structure Header where
  revision : BitVec 16
  label    : List Byte
  canvasW  : Nat
  canvasH  : Nat
  deriving DecidableEq, Repr

/-- R125, R153: what a profile holds of one output. -/
structure StoredOutput where
  controls : OutputControls
  enable   : Bool
  deriving DecidableEq, Repr

/-- R153: a profile's contents with the header kept with them. -/
structure Profile where
  scene    : Scene
  input    : InputControls
  outs     : Four StoredOutput
  revision : BitVec 16
  label    : List Byte
  deriving DecidableEq, Repr

/-- R153: a directory entry; `held` is none for EMPTY, else whether the profile is SOUND and its
header. -/
structure Entry where
  held       : Option (Bool × Header)
  writeCount : Nat
  deriving DecidableEq, Repr

/-- R154, R162: a profile area. `torn`: a store was writing it; `blanking`: an erase was blanking
it; `unblanked`: an erase ended and left it not blank (R160, log 41). -/
inductive Area where
  | blank
  | held (p : Profile)
  | torn (p : Profile)
  | blanking (p : Profile)
  | unblanked (p : Profile)
  deriving DecidableEq, Repr

/-- R154: what a directory copy holds. -/
structure Directory where
  generation : BitVec 32
  boot       : Option ProfileNo
  counts     : List Nat
  deriving DecidableEq, Repr

/-- R154, R162: a directory copy; `torn`: a directory write was writing it. -/
inductive DirCopy where
  | blank
  | held (d : Directory)
  | torn
  deriving DecidableEq, Repr

structure Flash where
  areas : List Area
  copy0 : DirCopy
  copy1 : DirCopy
  deriving DecidableEq, Repr

/-- Section 8.2; `inDirectory` says that the operation's directory write has begun (R162). -/
inductive Ctl where
  | scanning
  | idle
  | loading (n : ProfileNo) (arm : Bool)
  | storing (n : ProfileNo) (image : Profile) (inDirectory : Bool)
  | erasing (n : ProfileNo) (erased : Area) (inDirectory : Bool)
  | writingDirectory (boot : Option ProfileNo)
  deriving DecidableEq, Repr

structure ProfileStore where
  ctl        : Ctl
  entries    : List Entry
  boot       : Option ProfileNo
  dirRead    : Bool
  examined   : Nat
  scanCounts : List Nat
  pass0      : Bool
  pass1      : Bool
  flash      : Flash
  deriving DecidableEq, Repr

structure ModeState where
  mode       : PartMode
  remembered : HomeMode
  deriving DecidableEq, Repr

/-! ### Control Link (Chapter 9) -/

/-- R170: the receiver, with the bytes stored of the partial frame, oldest first. -/
inductive Receiver where
  | hunt
  | header (bytes : List Byte)
  | body (code tag : Byte) (length : Nat) (bytes : List Byte)
  deriving DecidableEq, Repr

/-- R174: a reply frame. -/
structure Reply where
  code   : Byte
  tag    : Byte
  status : Status
  body   : List Byte
  deriving DecidableEq, Repr

structure Link where
  rx       : Receiver
  holding  : Option Frame
  handling : Option Frame
  sending  : Option Reply
  deriving DecidableEq, Repr

/-! ### Indication Unit (Chapter 10) -/

/-- R181, R184: what a record says, by kind. -/
inductive IndBody where
  | inputState (state : AcqState) (format : FrameRecord)
  | acquireTimeout (left : AcqState)
  | outputState (k : Output) (state : ChanState) (cause : Cause)
  | bankSwapped (revision : BitVec 16)
  | bankReady
  | profileDone (subject : Option ProfileNo) (op : ProfileOp) (result : ProfileResult)
  | probeReady (k : Output)
  | slipThreshold (count : Nat)
  | modeChange (mode : PartMode)
  deriving DecidableEq, Repr

structure Indication where
  body  : IndBody
  stamp : BitVec 32
  deriving DecidableEq, Repr

/-- Section 10.3: the eleven capture flags. -/
structure CaptureFlags where
  inputLost    : Bool
  acqTimeout   : Bool
  outputLost   : Four Bool
  slip         : Bool
  tornInput    : Bool
  linkDiscard  : Bool
  queueOverrun : Bool
  profileBad   : Bool
  deriving DecidableEq, Repr

/-- The queue, the kind mask, the capture flags and the level of ATTN_N (true is high). -/
structure Indications where
  queue : List Indication
  mask  : BitVec 16
  flags : CaptureFlags
  attnN : Bool
  deriving DecidableEq, Repr

/-! ### Probe unit (Chapter 5) -/

/-- R100: the values the blend stage reports for one output. -/
structure ReachSet where
  reach    : Nat
  scaled   : Nat
  presence : Nat
  deriving DecidableEq, Repr

/-- R100: the values the light path reports for one colour channel. -/
structure LightSet where
  lift   : Nat
  linear : Nat
  scaled : Nat
  code   : Nat
  deriving DecidableEq, Repr

/-- R100: every intermediate value of one pixel. -/
structure PixelStages where
  sx       : Int
  sy       : Int
  gain     : Nat
  degraded : Bool
  x        : Int
  y        : Int
  sample   : Rgb
  reaches  : Four ReachSet
  sum      : Nat
  weight   : Nat
  cover    : Nat
  room     : Nat
  red      : LightSet
  green    : LightSet
  blue     : LightSet
  deriving DecidableEq, Repr

/-- R100: the probe result record; `stages` is none for OUT_OF_RASTER (R99). -/
structure ProbeResult where
  output   : Output
  u        : Nat
  v        : Nat
  path     : PathMode
  revision : BitVec 16
  stamp    : BitVec 32
  stages   : Option PixelStages
  showing  : Option (BufNo × BitVec 16)
  emitted  : Rgb
  deriving DecidableEq, Repr

/-- R95. -/
inductive Probe where
  | idle
  | waiting (k : Output) (u v : Nat)
  | ready (result : ProbeResult)
  deriving DecidableEq, Repr

/-- The input pins as last sensed (00_scope.md): INPUT_VALID, LINK_GOOD0 to 3, and the rate straps as
read at the last reset. -/
structure Pins where
  inputValid : Bool
  linkGood   : Four Bool
  straps     : BitVec 2
  deriving DecidableEq, Repr

/-- The whole part. `free` picks the free values (log 14, 15); `pending` is the queue of commands
that wait, first in first out. -/
structure State where
  pins     : Pins
  acq      : Acquisition
  frames   : FrameStore
  timer    : Timer
  master   : Master
  chans    : Four Channel
  banks    : Banks
  profiles : ProfileStore
  mode     : ModeState
  link     : Link
  ind      : Indications
  probe    : Probe
  free     : Nat
  pending  : List Instr
  deriving DecidableEq, Repr

/-- Reasons a command could fault: none. The manual gives the part no fault; every refusal is a reply
status (R175). -/
inductive Fault
  deriving DecidableEq, Repr

/-- Reasons a command is refused. -/
inductive Refusal where
  /-- Raised by `exec` for a row that has no meaning yet. Safe. No arm of this model raises it. -/
  | notModelled (mnemonic : String)
  deriving DecidableEq, Repr

/-! ### Reset values -/

/-- R20. -/
def resetAcq : Acquisition where
  state := .noSignal
  window := []
  measured := none
  controls := ⟨false, .four, .c11, 2000⟩
  target := none
  good := 0
  bad := 0
  waitCadence := none
  waitStart := none
  alignDue := false
  sinceCadence := 0
  lastCadence := none
  prevCadence := none
  frame := none
  acqTimer := none
  holdTimer := none

def black : Rgb := ⟨0, 0, 0⟩

/-- What an unwritten frame buffer holds (log 9): DESIGN CHOICE, black everywhere. -/
def blankPicture : Picture := ⟨black, []⟩

/-- R21, R22, R30, R31. -/
def resetFrames : FrameStore where
  bufs := Three.all .empty
  mem := Three.all blankPicture
  counter := 0
  base := none
  slips := 0
  threshold := 1000
  armed := true

/-- R34. -/
def resetTimer : Timer where
  mode := .free
  running := true
  current := Config.resetPeriod
  staged := Config.resetPeriod
  free := Config.resetPeriod
  position := 0
  counter := 0
  lastStart := 0

/-- R42. -/
def resetMaster : Master := ⟨0, 0, 32, false⟩

/-- R103. -/
def resetControls : OutputControls where
  lossConfirm := 3
  settle := 48
  rise := 64
  fall := 128
  policy := .refill
  autoRejoin := true
  path := .normal
  kind := .grid
  level := 2048

/-- R103, R124. -/
def resetChannel : Channel := ⟨.disabled, 0, 0, 0, resetControls, 0, .normal, .code0⟩

/-- R43: record `n` of the default mesh. -/
def defaultPoint (n : Nat) : Point := ⟨1024 * (n % 31 : Nat), 1024 * (n / 31 : Nat), 1024⟩

def defaultPoints : List Point := (List.range Config.meshRecords).map defaultPoint

/-- R84. -/
def defaultDecode : List Nat := (List.range Config.tableEntries).map fun i => min 65535 (256 * i)

/-- R86. -/
def defaultEncode : List Nat := (List.range Config.tableEntries).map fun i => min 4095 (16 * i)

/-- R64, R88, R129. -/
def defaultOutput : OutputScene where
  pitch := 64
  points := defaultPoints
  coverage := ⟨0, 1920, 0, 1080, 0, 0, 0, 0⟩
  tone := ⟨⟨4096, 4096, 4096⟩, black⟩
  encode := defaultEncode

/-- R129. -/
def defaultScene : Scene := ⟨1920, 1080, 1920, 1080, 1, defaultDecode, Four.all defaultOutput⟩

def clearFlags : List Bool := List.replicate Config.meshRecords false

/-- R129: the default scene, no degrade flag set. -/
def defaultStore : BankStore := ⟨defaultScene, Four.all clearFlags⟩

/-- R129; log 30: the reset names store 0 the active one. -/
def resetBanks : Banks := ⟨defaultStore, defaultStore, false, 0, .editable⟩

def emptyEntry : Entry := ⟨none, 0⟩

/-- A fresh flash (R154); log 10: DESIGN CHOICE for the first power-on. -/
def freshFlash : Flash := ⟨List.replicate 8 .blank, .blank, .blank⟩

/-- R164, R156: SCANNING with the directory image empty. -/
def resetProfiles (flash : Flash) : ProfileStore where
  ctl := .scanning
  entries := List.replicate 8 emptyEntry
  boot := none
  dirRead := false
  examined := 0
  scanCounts := List.replicate 8 0
  pass0 := false
  pass1 := false
  flash := flash

/-- R164. -/
def resetMode : ModeState := ⟨.startup, .run⟩

/-- R170, R172. -/
def resetLink : Link := ⟨.hunt, none, none, none⟩

def noFlags : CaptureFlags := ⟨false, false, Four.all false, false, false, false, false, false⟩

/-- R188. -/
def resetInd : Indications := ⟨[], 0, noFlags, true⟩

/-- The part right after reset, as the manual says; log 9, 10, 25 name the values it does not give. -/
def State.reset : State where
  pins := ⟨false, Four.all false, 0⟩
  acq := resetAcq
  frames := resetFrames
  timer := resetTimer
  master := resetMaster
  chans := Four.all resetChannel
  banks := resetBanks
  profiles := resetProfiles freshFlash
  mode := resetMode
  link := resetLink
  ind := resetInd
  probe := .idle
  free := 0
  pending := []

end Sys2Proof.Machine
end

