-- ==== Sys2Proof/Machine/Operands.lean ====
section
/-! DEFINITION. The arithmetic conventions of 00_scope.md, the fields of request bodies, and the byte
layouts of replies (R174 to R183). -/

namespace Sys2Proof.Machine

/-! ### Arithmetic (00_scope.md, Conventions) -/

/-- Round(x / y) for whole numbers that are not negative. -/
def roundDiv (x y : Nat) : Nat := (x + y / 2) / y

/-- Round(x / y) for any whole number `x`; the division floors, so ties go up. -/
def roundDivInt (x : Int) (y : Nat) : Int := (x + (y / 2 : Nat)) / (y : Int)

/-- ceil(x / P) of R44. -/
def ceilDiv (x p : Nat) : Nat := (x + p - 1) / p

/-- The value limited to `lo..hi`. -/
def clamp (lo hi v : Nat) : Nat := if v < lo then lo else if hi < v then hi else v

def clampInt (lo hi v : Int) : Int := if v < lo then lo else if hi < v then hi else v

/-- Whether `clamp` changes the value (R175, CLAMPED). -/
def clamps (lo hi v : Nat) : Bool := decide (v < lo) || decide (hi < v)

def clampsInt (lo hi v : Int) : Bool := decide (v < lo) || decide (hi < v)

/-- The magnitude of the difference of two whole numbers. -/
def distance (a b : Nat) : Nat := (a - b) + (b - a)

/-! ### Fields of a request body (R176: little-endian, signed fields in two's complement) -/

def byteAt (body : List Byte) (i : Nat) : Nat := (body.getD i 0).toNat

def u16At (body : List Byte) (i : Nat) : Nat := byteAt body i + 256 * byteAt body (i + 1)

def u32At (body : List Byte) (i : Nat) : Nat := u16At body i + 65536 * u16At body (i + 2)

def s32At (body : List Byte) (i : Nat) : Int :=
  if u32At body i < 2147483648 then u32At body i else (u32At body i : Int) - 4294967296

/-- R176: mark `n` is the bit of value 2^n of the marks field. -/
def mark (marks n : Nat) : Bool := marks.testBit n

/-- R176: an on/off field; none when out of its list. -/
def onOff? (v : Nat) : Option Bool :=
  if v = 0 then some false else if v = 1 then some true else none

def output? (v : Nat) : Option Output := if h : v < 4 then some ⟨v, h⟩ else none

def profile? (v : Nat) : Option ProfileNo := if h : v < 8 then some ⟨v, h⟩ else none

def limit? (v : Nat) : Option AcqLimit :=
  match v with
  | 0 => some .off
  | 1 => some .four
  | 2 => some .ten
  | _ => none

def cadence? (v : Nat) : Option Cadence :=
  match v with
  | 0 => some .c11
  | 1 => some .c21
  | 2 => some .c31
  | 3 => some .c41
  | 4 => some .c52
  | 5 => some .c51
  | _ => none

def policy? (v : Nat) : Option Policy :=
  match v with
  | 0 => some .refill
  | 1 => some .hold
  | 2 => some .allBlack
  | _ => none

def path? (v : Nat) : Option PathMode :=
  match v with
  | 0 => some .normal
  | 1 => some .flatWarp
  | 2 => some .unblended
  | 3 => some .pattern
  | _ => none

def kind? (v : Nat) : Option PatternKind :=
  match v with
  | 0 => some .grid
  | 1 => some .dots
  | 2 => some .flat
  | _ => none

/-- R176: the bank selector; true is PENDING. -/
def bankSel? (v : Nat) : Option Bool :=
  if v = 0 then some false else if v = 1 then some true else none

/-! ### Codes (R175, R176) -/

def boolCode (b : Bool) : Nat := if b then 1 else 0

def AcqState.code : AcqState → Nat
  | .noSignal => 0
  | .measuring => 1
  | .unsupported => 2
  | .mismatch => 3
  | .awaitAccept => 4
  | .locking => 5
  | .locked => 6

def AcqLimit.code : AcqLimit → Nat
  | .off => 0
  | .four => 1
  | .ten => 2

def Cadence.code : Cadence → Nat
  | .c11 => 0
  | .c21 => 1
  | .c31 => 2
  | .c41 => 3
  | .c52 => 4
  | .c51 => 5

/-- Section 1.4: N of the cadence pair. -/
def Cadence.n : Cadence → Nat
  | .c11 => 1
  | .c21 => 2
  | .c31 => 3
  | .c41 => 4
  | .c52 => 5
  | .c51 => 5

/-- Section 1.4: D of the cadence pair. -/
def Cadence.d : Cadence → Nat
  | .c11 => 1
  | .c21 => 1
  | .c31 => 1
  | .c41 => 1
  | .c52 => 2
  | .c51 => 1

def ChanState.code : ChanState → Nat
  | .disabled => 0
  | .acquiring => 1
  | .active => 2
  | .retiring => 3
  | .lost => 4
  | .parked => 5

def Cause.code : Cause → Nat
  | .host => 0
  | .linkLost => 1
  | .linkBack => 2
  | .settled => 3
  | .rampDone => 4
  | .standby => 5

def Policy.code : Policy → Nat
  | .refill => 0
  | .hold => 1
  | .allBlack => 2

def PathMode.code : PathMode → Nat
  | .normal => 0
  | .flatWarp => 1
  | .unblended => 2
  | .pattern => 3

def PatternKind.code : PatternKind → Nat
  | .grid => 0
  | .dots => 1
  | .flat => 2

def PendState.code : PendState → Nat
  | .editable => 0
  | .armed => 1
  | .syncing => 2
  | .loading => 3

def PartMode.code : PartMode → Nat
  | .startup => 0
  | .setup => 1
  | .run => 2
  | .dimming => 3
  | .standby => 4

def Ctl.code : Ctl → Nat
  | .scanning => 0
  | .idle => 1
  | .loading _ _ => 2
  | .storing _ _ _ => 3
  | .erasing _ _ _ => 4
  | .writingDirectory _ => 5

def ProfileOp.code : ProfileOp → Nat
  | .load => 0
  | .store => 1
  | .erase => 2
  | .setBoot => 3
  | .boot => 4

def ProfileResult.code : ProfileResult → Nat
  | .ok => 0
  | .failed => 1
  | .badCheck => 2

def Status.code : Status → Nat
  | .ok => 0x00
  | .clamped => 0x01
  | .busy => 0x02
  | .armed => 0x03
  | .stale => 0x04
  | .badArgument => 0x05
  | .badLength => 0x06
  | .unknownRequest => 0x07
  | .invalid => 0x08
  | .noProfile => 0x09
  | .unsound => 0x0A
  | .wrongState => 0x0B
  | .starting => 0x0C

/-- R176: the code of an indication's kind. -/
def IndBody.kindCode : IndBody → Nat
  | .inputState _ _ => 0
  | .acquireTimeout _ => 1
  | .outputState _ _ _ => 2
  | .bankSwapped _ => 3
  | .bankReady => 4
  | .profileDone _ _ _ => 5
  | .probeReady _ => 6
  | .slipThreshold _ => 7
  | .modeChange _ => 8

def HomeMode.toMode : HomeMode → PartMode
  | .run => .run
  | .setup => .setup

/-- OK, or CLAMPED where a field was clamped (R175). -/
def okOr (clamped : Bool) : Status := if clamped then .clamped else .ok

/-! ### Bytes of a reply body (R176) -/

def b8 (n : Nat) : List Byte := [BitVec.ofNat 8 n]

def b16 (n : Nat) : List Byte := [BitVec.ofNat 8 n, BitVec.ofNat 8 (n / 256)]

def b32 (n : Nat) : List Byte := b16 n ++ b16 (n / 65536)

/-- A 40-bit field: the input frame counter of READ_COUNTERS. -/
def b40 (n : Nat) : List Byte := b32 n ++ b8 (n / 4294967296)

def s16 (i : Int) : List Byte := b16 (i % 65536).toNat

def s32 (i : Int) : List Byte := b32 (i % 4294967296).toNat

/-- R176: a number that may be absent reads FFh when absent. -/
def optByte (n : Option Nat) : List Byte := b8 (n.getD 0xFF)

/-- R174: the bytes of a reply frame on TXD. -/
def Reply.bytes (r : Reply) : List Byte :=
  [0x3C, r.code, r.tag] ++ b8 r.status.code ++ b16 r.body.length ++ r.body

def zeros (n : Nat) : List Byte := List.replicate n 0

/-- R181: subject type and number, details A and B, value form, and value. -/
def IndBody.fields : IndBody → List Byte × List Byte
  | .inputState st f =>
    (b8 0 ++ b8 0xFF ++ b8 st.code ++ b8 0 ++ b8 2, b16 f.width ++ b16 f.height ++ b32 f.period)
  | .acquireTimeout st => (b8 0 ++ b8 0xFF ++ b8 st.code ++ b8 0 ++ b8 0, zeros 8)
  | .outputState k st c => (b8 1 ++ b8 k.val ++ b8 st.code ++ b8 c.code ++ b8 0, zeros 8)
  | .bankSwapped rev => (b8 0 ++ b8 0xFF ++ b8 0 ++ b8 0 ++ b8 1, b32 rev.toNat ++ zeros 4)
  | .bankReady => (b8 0 ++ b8 0xFF ++ b8 0 ++ b8 0 ++ b8 0, zeros 8)
  | .profileDone (some n) op r => (b8 2 ++ b8 n.val ++ b8 op.code ++ b8 r.code ++ b8 0, zeros 8)
  | .profileDone none op r => (b8 0 ++ b8 0xFF ++ b8 op.code ++ b8 r.code ++ b8 0, zeros 8)
  | .probeReady k => (b8 1 ++ b8 k.val ++ b8 0 ++ b8 0 ++ b8 0, zeros 8)
  | .slipThreshold n => (b8 0 ++ b8 0xFF ++ b8 0 ++ b8 0 ++ b8 1, b32 n ++ zeros 4)
  | .modeChange m => (b8 0 ++ b8 0xFF ++ b8 m.code ++ b8 0 ++ b8 0, zeros 8)

/-- R181: the 18 bytes of an indication record. -/
def Indication.bytes (i : Indication) : List Byte :=
  b8 i.body.kindCode ++ i.body.fields.1 ++ b32 i.stamp.toNat ++ i.body.fields.2

/-- R179: the 10 bytes of a point record. -/
def Point.bytes (p : Point) : List Byte := s32 p.sx ++ s32 p.sy ++ b16 p.m

/-- R179: the 16 bytes of a coverage record. -/
def Coverage.bytes (c : Coverage) : List Byte :=
  b16 c.left ++ b16 c.right ++ b16 c.top ++ b16 c.bottom ++
  b16 c.fLeft ++ b16 c.fRight ++ b16 c.fTop ++ b16 c.fBottom

def Rgb.bytes (x : Rgb) : List Byte := b16 x.r ++ b16 x.g ++ b16 x.b

/-- R178: the six fields of a tone record. -/
def Tone.bytes (t : Tone) : List Byte := t.gain.bytes ++ t.floor.bytes

def ReachSet.bytes (r : ReachSet) : List Byte := b16 r.reach ++ b16 r.scaled ++ b16 r.presence

def LightSet.bytes (l : LightSet) : List Byte :=
  b16 l.lift ++ b16 l.linear ++ b16 l.scaled ++ b16 l.code

/-- R183: offsets 13 to 98 of a COMPUTED result. -/
def PixelStages.bytes (p : PixelStages) (showing : Option (BufNo × BitVec 16)) (emitted : Rgb) :
    List Byte :=
  s32 p.sx ++ s32 p.sy ++ b16 p.gain ++ b8 (boolCode p.degraded) ++ s16 p.x ++ s16 p.y ++
  optByte (showing.map fun b => b.1.val) ++ b16 (showing.elim 0 fun b => b.2.toNat) ++
  p.sample.bytes ++ (p.reaches.toList.map ReachSet.bytes).flatten ++
  b16 p.sum ++ b16 p.weight ++ b16 p.cover ++ b16 p.room ++
  p.red.bytes ++ p.green.bytes ++ p.blue.bytes ++ emitted.bytes

/-- R183: the 99 bytes of the probe result body; an OUT_OF_RASTER result reads 0 past offset 12, but
FFh at offset 28 (R99). -/
def ProbeResult.bytes (r : ProbeResult) : List Byte :=
  b8 (boolCode r.stages.isNone) ++ b8 r.output.val ++ b16 r.u ++ b16 r.v ++ b8 r.path.code ++
  b16 r.revision.toNat ++ b32 r.stamp.toNat ++
  match r.stages with
  | some p => p.bytes r.showing r.emitted
  | none => zeros 15 ++ b8 0xFF ++ zeros 70

end Sys2Proof.Machine
end

