-- ==== Sys2Proof/Machine/Flags.lean ====
section
/-! DEFINITION. The capture flags (section 10.3): which event sets which flag, and the word STATUS
reports them in (R182). -/

namespace Sys2Proof.Machine

def State.setFlags (f : CaptureFlags → CaptureFlags) (s : State) : State :=
  { s with ind := { s.ind with flags := f s.ind.flags } }

/-- R4. -/
def State.flagInputLost (s : State) : State := s.setFlags fun f => { f with inputLost := true }
/-- R15. -/
def State.flagAcqTimeout (s : State) : State := s.setFlags fun f => { f with acqTimeout := true }
/-- R104. -/
def State.flagOutputLost (k : Output) (s : State) : State :=
  s.setFlags fun f => { f with outputLost := f.outputLost.set k true }
/-- R30. -/
def State.flagSlip (s : State) : State := s.setFlags fun f => { f with slip := true }
/-- R16. -/
def State.flagTorn (s : State) : State := s.setFlags fun f => { f with tornInput := true }
/-- R171, R172. -/
def State.flagLinkDiscard (s : State) : State := s.setFlags fun f => { f with linkDiscard := true }
/-- R184. -/
def State.flagOverrun (s : State) : State := s.setFlags fun f => { f with queueOverrun := true }
/-- R154, R157, R159, R160, R161, R165. -/
def State.flagProfileBad (s : State) : State := s.setFlags fun f => { f with profileBad := true }

/-- R187: every flag the reply reports as set is cleared. -/
def State.clearFlags (s : State) : State := s.setFlags fun _ => noFlags

/-- R182: the capture flags field. -/
def CaptureFlags.word (f : CaptureFlags) : Nat :=
  1 * boolCode f.inputLost + 2 * boolCode f.acqTimeout +
  4 * boolCode f.outputLost.o0 + 8 * boolCode f.outputLost.o1 +
  16 * boolCode f.outputLost.o2 + 32 * boolCode f.outputLost.o3 +
  64 * boolCode f.slip + 128 * boolCode f.tornInput + 256 * boolCode f.linkDiscard +
  512 * boolCode f.queueOverrun + 1024 * boolCode f.profileBad

end Sys2Proof.Machine
end

