-- ==== Sys2Proof/Machine/Pixel.lean ====
section
/-! DEFINITION. The pixel pipeline: warp mesh and sampler (Chapter 3), reach, weight and lift
(Chapter 4), light path (Chapter 5) and patterns (R120), for one pixel of one output. -/

namespace Sys2Proof.Machine

/-! ### Layout and degrade flags -/

/-- R44. -/
def layoutCols (rasterW pitch : Nat) : Nat := ceilDiv (rasterW - 1) pitch + 1

/-- R44. -/
def layoutRows (rasterH pitch : Nat) : Nat := ceilDiv (rasterH - 1) pitch + 1

def Scene.cols (sc : Scene) (k : Output) : Nat := layoutCols sc.rasterW (sc.outs.get k).pitch

def Scene.rows (sc : Scene) (k : Output) : Nat := layoutRows sc.rasterH (sc.outs.get k).pitch

/-- R44: the cells of an output's layout. -/
def Scene.cells (sc : Scene) (k : Output) : Nat := (sc.cols k - 1) * (sc.rows k - 1)

def pointAt (points : List Point) (i : Nat) : Point := points.getD i ⟨0, 0, 0⟩

/-- R52: the record at column `i` and row `j` of the layout. -/
def Scene.corner (sc : Scene) (k : Output) (i j : Nat) : Point :=
  pointAt (sc.outs.get k).points (j * sc.cols k + i)

/-- R62: whether an edge spans more than `32 * P` sixteenths in x or in y. -/
def edgeLong (limit : Nat) (p q : Point) : Bool :=
  decide (limit < (p.sx - q.sx).natAbs) || decide (limit < (p.sy - q.sy).natAbs)

/-- R62: whether cell (i, j) is flagged. -/
def Scene.cellDegrades (sc : Scene) (k : Output) (i j : Nat) : Bool :=
  let limit := 32 * (sc.outs.get k).pitch
  let p00 := sc.corner k i j
  let p10 := sc.corner k (i + 1) j
  let p01 := sc.corner k i (j + 1)
  let p11 := sc.corner k (i + 1) (j + 1)
  edgeLong limit p00 p10 || edgeLong limit p01 p11 || edgeLong limit p00 p01 || edgeLong limit p10 p11

/-- R43: the flag number of cell (i, j). -/
def Scene.flagNo (sc : Scene) (k : Output) (i j : Nat) : Nat := j * (sc.cols k - 1) + i

/-- R43, R62: the flags of an output's mesh, derived on the scene's layout. -/
def Scene.deriveFlags (sc : Scene) (k : Output) : List Bool :=
  (List.range Config.meshRecords).map fun n =>
    decide (n < sc.cells k) && sc.cellDegrades k (n % (sc.cols k - 1)) (n / (sc.cols k - 1))

/-- R62, R63: a bank store of the scene with its flags derived. -/
def Scene.derived (sc : Scene) : BankStore :=
  ⟨sc, ⟨sc.deriveFlags 0, sc.deriveFlags 1, sc.deriveFlags 2, sc.deriveFlags 3⟩⟩

/-- R43: a cell whose number is 1200 or more has a clear flag. -/
def BankStore.flagOf (st : BankStore) (k : Output) (n : Nat) : Bool := (st.flags.get k).getD n false

/-- R135, R138: the set flags over the cells of the layout. -/
def BankStore.flaggedCells (st : BankStore) (k : Output) : Nat :=
  ((List.range (st.scene.cells k)).filter fun n => st.flagOf k n).length

/-! ### Frame memory as the sampler reads it -/

/-- The key of canvas position (x, y) in a picture (log 8). -/
def pixelKey (x y : Nat) : Nat := y * 4096 + x

def lookupCell (key : Nat) : List (Nat × Rgb) → Option Rgb
  | [] => none
  | (k, c) :: rest => if k = key then some c else lookupCell key rest

/-- The linear values at a key: the listed ones, else the fill. -/
def Picture.read (p : Picture) (key : Nat) : Rgb := (lookupCell key p.cells).getD p.fill

/-- R58, R60: a neighbour of the sampler: the stored values inside the canvas of the SHOWING buffer,
0 outside it and when no buffer is SHOWING. -/
def neighbour (sc : Scene) (pic : Option Picture) (x y : Int) : Rgb :=
  match pic with
  | none => black
  | some p =>
    if 0 ≤ x ∧ x < sc.canvasW ∧ 0 ≤ y ∧ y < sc.canvasH then p.read (pixelKey x.toNat y.toNat) else black

/-! ### Warp (Chapter 3) -/

/-- What the Warp Engine finds for a pixel (R53 to R55). -/
structure WarpPoint where
  sx       : Int
  sy       : Int
  gain     : Nat
  degraded : Bool
  deriving DecidableEq, Repr

/-- R51: the cell index and the offset along one axis. -/
def cellIndex (u pitch count : Nat) : Nat := min (u / pitch) (count - 2)

/-- R53: the rounded mean of the four corner values. -/
def meshMean (pitch a b : Nat) (v00 v10 v01 v11 : Int) : Int :=
  roundDivInt
    ((((pitch - a) * (pitch - b) : Nat) : Int) * v00 + ((a * (pitch - b) : Nat) : Int) * v10 +
      (((pitch - a) * b : Nat) : Int) * v01 + ((a * b : Nat) : Int) * v11)
    (pitch * pitch)

/-- R51 to R54: the mesh position and gain of pixel (u, v) of output `k`. -/
def BankStore.meshWarp (st : BankStore) (k : Output) (u v : Nat) : WarpPoint :=
  let sc := st.scene
  let pitch := (sc.outs.get k).pitch
  let i := cellIndex u pitch (sc.cols k)
  let j := cellIndex v pitch (sc.rows k)
  let a := u - i * pitch
  let b := v - j * pitch
  let p00 := sc.corner k i j
  let p10 := sc.corner k (i + 1) j
  let p01 := sc.corner k i (j + 1)
  let p11 := sc.corner k (i + 1) (j + 1)
  { sx := meshMean pitch a b p00.sx p10.sx p01.sx p11.sx
    sy := meshMean pitch a b p00.sy p10.sy p01.sy p11.sy
    gain := (meshMean pitch a b p00.m p10.m p01.m p11.m).toNat
    degraded := st.flagOf k (sc.flagNo k i j) }

/-- R55: FLAT_WARP. -/
def flatWarp (u v : Nat) : WarpPoint := ⟨16 * u, 16 * v, 1024, false⟩

/-- R49, R98: the warp of a path mode; a probe of PATTERN takes the stages of NORMAL. -/
def BankStore.warp (st : BankStore) (path : PathMode) (k : Output) (u v : Nat) : WarpPoint :=
  match path with
  | .flatWarp => flatWarp u v
  | .normal => st.meshWarp k u v
  | .unblended => st.meshWarp k u v
  | .pattern => st.meshWarp k u v

/-- R59, one colour channel. -/
def bilinear (fx fy v00 v10 v01 v11 : Nat) : Nat :=
  roundDiv ((16 - fx) * (16 - fy) * v00 + fx * (16 - fy) * v10 + (16 - fx) * fy * v01 + fx * fy * v11)
    256

/-- R57 to R61: the sample at a warp position. -/
def sampleAt (sc : Scene) (pic : Option Picture) (w : WarpPoint) : Rgb :=
  if w.degraded then neighbour sc pic ((w.sx + 8) / 16) ((w.sy + 8) / 16)
  else
    let x0 := w.sx / 16
    let y0 := w.sy / 16
    let fx := (w.sx % 16).toNat
    let fy := (w.sy % 16).toNat
    let n00 := neighbour sc pic x0 y0
    let n10 := neighbour sc pic (x0 + 1) y0
    let n01 := neighbour sc pic x0 (y0 + 1)
    let n11 := neighbour sc pic (x0 + 1) (y0 + 1)
    ⟨bilinear fx fy n00.r n10.r n01.r n11.r, bilinear fx fy n00.g n10.g n01.g n11.g,
      bilinear fx fy n00.b n10.b n01.b n11.b⟩

/-! ### Blend (Chapter 4) -/

/-- R71: whether a coverage contains a canvas position. -/
def Coverage.contains (c : Coverage) (x y : Int) : Bool :=
  decide (c.left ≤ x ∧ x < c.right ∧ c.top ≤ y ∧ y < c.bottom)

/-- R71: an edge factor at distance `d` from an edge of feather `f`. -/
def edgeFactor (d f : Nat) : Nat :=
  if f = 0 then Config.one else min Config.one ((2 * d + 1) * 2048 / f)

/-- R71, R72: the reach of a coverage at a canvas position. -/
def Coverage.reach (c : Coverage) (x y : Int) : Nat :=
  if c.contains x y then
    let left := edgeFactor (x - c.left).toNat c.fLeft
    let right := edgeFactor (c.right - 1 - x).toNat c.fRight
    let top := edgeFactor (y - c.top).toNat c.fTop
    let bottom := edgeFactor (c.bottom - 1 - y).toNat c.fBottom
    let t1 := roundDiv (left * right) Config.one
    let t2 := roundDiv (t1 * top) Config.one
    roundDiv (t2 * bottom) Config.one
  else 0

/-- R75. -/
def scaledReach (reach presence : Nat) : Nat := roundDiv (reach * presence) Config.one

/-- R76. -/
def weightOf (q sum : Nat) : Nat := if sum = 0 then 0 else roundDiv (q * Config.one) sum

/-- R81: the lift room. -/
def liftRoom (ceiling cover : Nat) : Nat := Config.one * ceiling - cover

/-- R81, one colour channel. -/
def liftOf (floor room weight : Nat) : Nat := roundDiv (floor * room * weight) 16777216

/-! ### Light path (Chapter 5) -/

/-- R91, one colour channel. -/
def linearOut (sample gain weight toneGain lift : Nat) : Nat :=
  min Config.maxLinear (roundDiv (sample * gain * weight * toneGain) 17179869184 + lift)

/-- R92. -/
def masterScale (o level : Nat) : Nat := roundDiv (o * level) Config.one

/-- R93. -/
def encodeCode (table : List Nat) (o : Nat) : Nat :=
  let e := o / 256
  let f := o % 256
  let t0 : Int := (table.getD e 0 : Nat)
  let t1 : Int := (table.getD (e + 1) 0 : Nat)
  (clampInt 0 Config.maxCode (t0 + ((t1 - t0) * f + 128) / 256)).toNat

/-- R85. -/
def decodeCode (table : List Nat) (c : Nat) : Nat :=
  let d := c / 16
  let f := c % 16
  let d0 : Int := (table.getD d 0 : Nat)
  let d1 : Int := (table.getD (d + 1) 0 : Nat)
  (d0 + ((d1 - d0) * f + 8) / 16).toNat

def lightSet (out : OutputScene) (level weight gain lift sample toneGain : Nat) : LightSet :=
  let o := linearOut sample gain weight toneGain lift
  let o' := masterScale o level
  ⟨lift, o, o', encodeCode out.encode o'⟩

/-! ### All the stages of one pixel -/

/-- R97, R100: the stages of pixel (u, v) of output `k` with a bank, the SHOWING picture, the four
presences, a master level and a path mode. -/
def BankStore.stages (st : BankStore) (pic : Option Picture) (presences : Four Nat) (level : Nat)
    (path : PathMode) (k : Output) (u v : Nat) : PixelStages :=
  let sc := st.scene
  let out := sc.outs.get k
  let w := st.warp path k u v
  let x := w.sx / 16
  let y := w.sy / 16
  let sample := sampleAt sc pic w
  let reaches : Four ReachSet := Four.mapIdx (fun j p =>
    let r := (sc.outs.get j).coverage.reach x y
    ⟨r, scaledReach r p, p⟩) presences
  let sum := reaches.o0.scaled + reaches.o1.scaled + reaches.o2.scaled + reaches.o3.scaled
  let covers : Four Nat := Four.mapIdx (fun j p =>
    if (sc.outs.get j).coverage.contains x y then p else 0) presences
  let cover := covers.o0 + covers.o1 + covers.o2 + covers.o3
  let room := liftRoom sc.ceiling cover
  let own := reaches.get k
  let weight :=
    if path = .unblended then (if own.reach = 0 then 0 else Config.one) else weightOf own.scaled sum
  let lift := fun floor => if path = .unblended then 0 else liftOf floor room weight
  { sx := w.sx, sy := w.sy, gain := w.gain, degraded := w.degraded, x := x, y := y, sample := sample,
    reaches := reaches, sum := sum, weight := weight, cover := cover, room := room
    red := lightSet out level weight w.gain (lift out.tone.floor.r) sample.r out.tone.gain.r
    green := lightSet out level weight w.gain (lift out.tone.floor.g) sample.g out.tone.gain.g
    blue := lightSet out level weight w.gain (lift out.tone.floor.b) sample.b out.tone.gain.b }

/-! ### Patterns (R120) -/

def onGrid (sc : Scene) (pitch u v : Nat) : Bool :=
  decide (u % pitch = 0) || decide (v % pitch = 0) || decide (u = sc.rasterW - 1) ||
    decide (v = sc.rasterH - 1)

/-- R120: whether `u` lies within 2 of a marked position of one axis. -/
def nearMark (u pitch count size : Nat) : Bool :=
  (List.range count).any fun c => decide (distance u (min (c * pitch) (size - 1)) ≤ 2)

def Scene.onPattern (sc : Scene) (kind : PatternKind) (k : Output) (u v : Nat) : Bool :=
  let pitch := (sc.outs.get k).pitch
  match kind with
  | .grid => onGrid sc pitch u v
  | .dots => nearMark u pitch (sc.cols k) sc.rasterW && nearMark v pitch (sc.rows k) sc.rasterH
  | .flat => true

/-- R94, R120: the pattern's code at a pixel, the same in all three colour channels. -/
def Scene.patternCode (sc : Scene) (kind : PatternKind) (level : Nat) (k : Output) (u v : Nat) : Rgb :=
  if sc.onPattern kind k u v then ⟨level, level, level⟩ else black

/-- R94, R98: the code a port emits at a pixel. -/
def emittedCode (sc : Scene) (port : PortContent) (st : PixelStages) (k : Output) (u v : Nat) : Rgb :=
  match port with
  | .code0 => black
  | .pattern kind level => sc.patternCode kind level k u v
  | .computed => ⟨st.red.code, st.green.code, st.blue.code⟩

end Sys2Proof.Machine
end

