-- ==== Sys2Proof/Machine/Memory.lean ====
section
/-! DEFINITION. Frame memory: writing a picture in its canonical form, and converting an input frame
through a decode table (R24, R85). -/

namespace Sys2Proof.Machine

/-- The keys rise strictly, all above `lo`. -/
def risingFrom (lo : Nat) : List (Nat × Rgb) → Bool
  | [] => true
  | (k, _) :: rest => decide (lo ≤ k) && risingFrom (k + 1) rest

/-- The canonical form of a picture: keys strictly rising, no entry equal to the fill (log 8). -/
def Picture.wf (p : Picture) : Bool :=
  risingFrom 0 p.cells && p.cells.all fun c => decide (c.2 ≠ p.fill)

/-- Puts a cell into a rising list, in place of an entry with its key. -/
def insertCell (key : Nat) (c : Rgb) : List (Nat × Rgb) → List (Nat × Rgb)
  | [] => [(key, c)]
  | (k, c') :: rest =>
    if key < k then (key, c) :: (k, c') :: rest
    else if key = k then (key, c) :: rest
    else (k, c') :: insertCell key c rest

def eraseCell (key : Nat) : List (Nat × Rgb) → List (Nat × Rgb)
  | [] => []
  | (k, c) :: rest => if k = key then rest else (k, c) :: eraseCell key rest

/-- Stores the linear values of one pixel; writing the fill removes the entry. -/
def Picture.write (p : Picture) (key : Nat) (c : Rgb) : Picture :=
  if c = p.fill then { p with cells := eraseCell key p.cells }
  else { p with cells := insertCell key c p.cells }

/-- R85: the linear values of an input pixel. -/
def decodePixel (table : List Nat) (p : InputPixel) : Rgb :=
  ⟨decodeCode table p.r.toNat, decodeCode table p.g.toNat, decodeCode table p.b.toNat⟩

/-- R1: a frame's active size: the number of its lines, and the number of pixels of each, or 0 where
the lines differ. -/
def activeSize (f : InputFrame) : Nat × Nat :=
  match f.lines with
  | [] => (0, 0)
  | w :: rest => (if rest.all (fun x => decide (x = w)) then w else 0, f.lines.length)

/-- Whether a listed pixel lies on the frame's active lines. -/
def onFrame (f : InputFrame) (x y : Nat) : Bool := decide (x < f.lines.getD y 0)

/-- R24: the linear picture of an input frame through a decode table. -/
def convertFrame (f : InputFrame) (table : List Nat) : Picture :=
  (f.pixels.filter fun p => onFrame f p.1 p.2.1).foldl
    (fun pic p => pic.write (pixelKey p.1 p.2.1) (decodePixel table p.2.2))
    ⟨decodePixel table f.background, []⟩

end Sys2Proof.Machine
end

