-- ==== Sys2Proof/Machine/Ops.lean ====
section
/-! DEFINITION. The operations every family shares: posting an indication, the master target, the
banks by role, replying and taking in a request. -/

namespace Sys2Proof.Machine

/-! ### Indications (R184) -/

/-- R186: whether the kind mask masks a kind. -/
def Indications.masks (i : Indications) (b : IndBody) : Bool := i.mask.toNat.testBit b.kindCode

/-- R184: posting an indication. -/
def State.post (b : IndBody) (s : State) : State :=
  if s.ind.masks b then s
  else if s.ind.queue.length < Config.queueRoom then
    { s with ind := { s.ind with queue := s.ind.queue ++ [⟨b, s.timer.counter⟩], attnN := false } }
  else s.flagOverrun

/-! ### The master target (R39) -/

/-- Section 1.2: LOCKING and LOCKED. -/
def AcqState.isLocked (a : AcqState) : Bool := decide (a = .locking) || decide (a = .locked)

/-- R17. -/
def State.pictureAllowed (s : State) : Bool := s.acq.state.isLocked || s.acq.holdTimer.isSome

/-- R39, R116: the channel holds the master target at 0. -/
def Channel.blacksOut (c : Channel) : Bool :=
  decide (c.controls.policy = .allBlack) && (decide (c.state = .lost) || decide (c.state = .parked))

/-- R39: the four conditions. -/
def State.targetOf (s : State) : Nat :=
  if s.pictureAllowed && !s.master.mute && (decide (s.mode.mode = .run) || decide (s.mode.mode = .setup))
    && !(s.chans.o0.blacksOut || s.chans.o1.blacksOut || s.chans.o2.blacksOut || s.chans.o3.blacksOut)
  then Config.one else 0

/-- R39: the target is taken again. -/
def State.retarget (s : State) : State := { s with master := { s.master with target := s.targetOf } }

/-! ### The two banks by role (R127) -/

def Banks.active (b : Banks) : BankStore := if b.activeIsOne then b.store1 else b.store0

def Banks.pending (b : Banks) : BankStore := if b.activeIsOne then b.store0 else b.store1

/-- Writes the store that has the role PENDING. -/
def Banks.setPending (b : Banks) (st : BankStore) : Banks :=
  if b.activeIsOne then { b with store0 := st } else { b with store1 := st }

def State.active (s : State) : BankStore := s.banks.active

def State.pendingBank (s : State) : BankStore := s.banks.pending

def State.setPendingBank (st : BankStore) (s : State) : State :=
  { s with banks := s.banks.setPending st }

def State.setPendState (p : PendState) (s : State) : State :=
  { s with banks := { s.banks with pendState := p } }

/-! ### The frame buffers (R21, R25, R29) -/

def State.setBuf (b : BufNo) (r : BufRec) (s : State) : State :=
  { s with frames := { s.frames with bufs := s.frames.bufs.set b r } }

/-- The frame in progress is no longer written. -/
def State.dropWrite (s : State) : State :=
  { s with acq := { s.acq with frame := s.acq.frame.map fun f => { f with write := none } } }

/-- Whether the frame in progress is written (R16). -/
def State.writing? (s : State) : Option FrameWrite := s.acq.frame.bind fun f => f.write

/-- R3, R25: a frame being written is abandoned and its buffer goes to EMPTY. -/
def State.abandonWrite (s : State) : State :=
  match s.writing? with
  | none => s
  | some w => (s.setBuf w.buf .empty).dropWrite

/-- R29: all three records read EMPTY. -/
def State.emptyBuffers (s : State) : State :=
  { s with frames := { s.frames with bufs := Three.all .empty } }

/-! ### Requests and replies (R172, R174) -/

/-- R174: the reply to the request being handled. -/
def State.answer (st : Status) (body : List Byte) (s : State) : State :=
  match s.link.handling with
  | none => s
  | some f => { s with link := { s.link with sending := some ⟨f.code, f.tag, st, body⟩ } }

/-- A refused request's reply has an empty body (R174). -/
def State.refuse (st : Status) (s : State) : State := s.answer st []

/-- R173, R164: the link's length check, then the refusal with STARTING of a request that STARTUP
does not take, then the owner's rule `act`. -/
def request (fits takenInStartup : Bool) (act : State → State) (s : State) : State :=
  if !fits then s.refuse .badLength
  else if decide (s.mode.mode = .startup) && !takenInStartup then s.refuse .starting
  else act s

/-- R172: a request frame completes: it is handled by `act` at once, waits in the holding buffer, or
is discarded. -/
def State.submit (f : Frame) (act : State → State) (s : State) : State :=
  let s := { s with link := { s.link with rx := .hunt } }
  match s.link.handling, s.link.holding with
  | none, _ => act { s with link := { s.link with handling := some f } }
  | some _, none => { s with link := { s.link with holding := some f } }
  | some _, some _ => s.flagLinkDiscard

/-- The opaque choices of a reply are fresh for each one (log 14, 15). -/
def State.bumpFree (s : State) : State := { s with free := s.free + 1 }

/-! ### Reset (R164) -/

/-- R164, R21, R154: every block takes its reset values; frame memory, the profile flash and the
waiting commands stay, and the straps are read. -/
def State.restart (straps : BitVec 2) (s : State) : State :=
  { State.reset with
    pins := { State.reset.pins with straps := straps }
    frames := { resetFrames with mem := s.frames.mem }
    profiles := resetProfiles s.profiles.flash
    free := s.free
    pending := s.pending }

end Sys2Proof.Machine
end

