-- ==== Sys2Proof/Machine/Acquire.lean ====
section
/-! DEFINITION. The Input Acquisition Controller (Chapter 1): its state changes, the measurement
window, the format check, pairing and lock, torn and lost frames. -/

namespace Sys2Proof.Machine

/-! ### State changes -/

/-- R15: the acquisition timer starts from zero with the limit in force; OFF does not run it. -/
def AcqLimit.start : AcqLimit → Option AcqLimit
  | .off => none
  | .four => some .four
  | .ten => some .ten

/-- R3: the five actions on leaving the locked states. -/
def State.leaveLocked (s : State) : State :=
  let s := s.abandonWrite
  { s with
    timer := { s.timer with mode := .free, staged := s.timer.current }
    acq := { s.acq with
      good := 0, bad := 0, waitCadence := none, waitStart := none, alignDue := false
      holdTimer := if s.acq.controls.hold = 0 then none else some s.acq.controls.hold } }

/-- What the acquisition registers become on entry to a state (R4, R6, R7, R11, R13). -/
def Acquisition.enter (a : Acquisition) (new : AcqState) (window : List FrameRecord) : Acquisition :=
  match new with
  | .noSignal => { a with state := new, window := [], measured := none, acqTimer := none }
  | .measuring =>
    { a with state := new, window := window, measured := none, acqTimer := a.controls.limit.start }
  | .unsupported => { a with state := new, acqTimer := none }
  | .mismatch => { a with state := new, acqTimer := none }
  | .awaitAccept => { a with state := new, acqTimer := none }
  | .locking =>
    { a with state := new, good := 0, bad := 0, waitCadence := none, waitStart := none
             alignDue := true, acqTimer := a.controls.limit.start, holdTimer := none }
  | .locked => { a with state := new, good := 0, acqTimer := none }

/-- R2: the value of INPUT_STATE. -/
def Acquisition.format (a : Acquisition) : FrameRecord := a.measured.getD ⟨0, 0, 0⟩

/-- An entry to an acquisition state with all that goes with it: R3 on leaving the locked states, the
timer to FOLLOW on entry to LOCKING from outside (R11, R36), and INPUT_STATE where the state name
changes (R2). `window` is the measurement window on entry to MEASURING. -/
def State.moveTo (new : AcqState) (window : List FrameRecord) (s : State) : State :=
  let old := s.acq.state
  let s := if old.isLocked && !new.isLocked then s.leaveLocked else s
  let s := { s with acq := s.acq.enter new window }
  let s := if new = .locking && !old.isLocked then
    { s with timer := { s.timer with mode := .follow } } else s
  if new = old then s else s.post (.inputState new s.acq.format)

/-! ### The format check -/

/-- R7: round(measured period × D / N). -/
def targetPeriod (period : Nat) (c : Cadence) : Nat := roundDiv (period * c.d) c.n

/-- R7, R37: the range of presentation periods. -/
def periodInRange (p : Nat) : Bool := decide (Config.minPeriod ≤ p) && decide (p ≤ Config.maxPeriod)

/-- Whether the measured size is the active canvas size (R7, R9). -/
def State.sizeFits (m : FrameRecord) (s : State) : Bool :=
  decide (m.width = s.active.scene.canvasW) && decide (m.height = s.active.scene.canvasH)

def State.setTarget (t : Nat) (s : State) : State := { s with acq := { s.acq with target := some t } }

/-- R7: the format check. -/
def State.formatCheck (s : State) : State :=
  match s.acq.measured with
  | none => s
  | some m =>
    let t := targetPeriod m.period s.acq.controls.cadence
    let s := s.setTarget t
    if !periodInRange t then s.moveTo .unsupported []
    else if !s.sizeFits m then s.moveTo .mismatch []
    else if s.acq.controls.breakpoint then s.moveTo .awaitAccept []
    else s.moveTo .locking []

/-- R9: the active canvas size has changed. -/
def State.newCanvas (s : State) : State :=
  match s.acq.state, s.acq.measured with
  | .mismatch, some _ => s.formatCheck
  | .awaitAccept, some m => if s.sizeFits m then s else s.moveTo .mismatch []
  | .locking, some m => if s.sizeFits m then s else s.moveTo .mismatch []
  | .locked, some m => if s.sizeFits m then s else s.moveTo .mismatch []
  | _, _ => s

/-- R18: a cadence change in the locked states. -/
def State.recadence (s : State) : State :=
  match s.acq.measured with
  | none => s
  | some m =>
    let t := targetPeriod m.period s.acq.controls.cadence
    let s := s.setTarget t
    if periodInRange t then s.moveTo .locking [] else s.moveTo .unsupported []

/-- R15: what new controls do to the acquisition timer. -/
def limitChange (old new : AcqLimit) (state : AcqState) (timer : Option AcqLimit) : Option AcqLimit :=
  if new = .off then none
  else if old = .off && (decide (state = .measuring) || decide (state = .locking)) then new.start
  else timer

/-- R18 steps 3 and 4: new input controls are set and act once, by state. -/
def State.applyInputControls (c : InputControls) (s : State) : State :=
  let old := s.acq.controls
  let s := { s with acq := { s.acq with
    controls := c, acqTimer := limitChange old.limit c.limit s.acq.state s.acq.acqTimer } }
  let recad := decide (old.cadence ≠ c.cadence)
  match s.acq.state with
  | .noSignal => s
  | .measuring => s
  | .unsupported => if recad then s.formatCheck else s
  | .mismatch => if recad then s.formatCheck else s
  | .awaitAccept => if recad || (old.breakpoint && !c.breakpoint) then s.formatCheck else s
  | .locking => if recad then s.recadence else s
  | .locked => if recad then s.recadence else s

/-! ### Measurement (R6, R8) -/

/-- R6, R8: same size, and period within one part in 512. -/
def FrameRecord.matches (ref r : FrameRecord) : Bool :=
  decide (r.width = ref.width) && decide (r.height = ref.height) &&
    decide (distance r.period ref.period ≤ ref.period / 512)

/-- R6: the window after a new record. -/
def addRecord (window : List FrameRecord) (r : FrameRecord) : List FrameRecord :=
  match window with
  | [] => [r]
  | ref :: rest => if ref.matches r then ref :: rest ++ [r] else [r]

/-- R6: the measured format of a full window. -/
def windowFormat (window : List FrameRecord) : Option FrameRecord :=
  match window with
  | [a, b, c, d] => some ⟨a.width, a.height, roundDiv (a.period + b.period + c.period + d.period) 4⟩
  | _ => none

/-- R6, R8: the record of the frame before, or none where that frame was cut short, handled by a
state outside the locked states. -/
def State.takeRecord (r : Option FrameRecord) (s : State) : State :=
  match s.acq.state with
  | .measuring =>
    let window := match r with
      | none => []
      | some r => addRecord s.acq.window r
    let s := { s with acq := { s.acq with window := window } }
    match windowFormat window with
    | none => s
    | some m => { s with acq := { s.acq with measured := some m } }.formatCheck
  | .unsupported | .mismatch | .awaitAccept =>
    match r, s.acq.measured with
    | none, _ => s.moveTo .measuring []
    | some r, some m => if m.matches r then s else s.moveTo .measuring [r]
    | some _, none => s
  | _ => s

/-! ### Pairing and lock (R12 to R14) -/

/-- R12: the staged period a pair gives: target − round(e / 8N), within target div 1024. -/
def stagedPeriod (target n : Nat) (e : Int) : Nat :=
  (clampInt ((target : Int) - (target / 1024 : Nat)) ((target : Int) + (target / 1024 : Nat))
    ((target : Int) - roundDivInt e (8 * n))).toNat

/-- R12 to R14: a cadence point at `cadence` pairs with a position-0 start at `start`. -/
def State.pair (start cadence : Nat) (s : State) : State :=
  let e : Int := (start : Int) - cadence
  let target := s.acq.target.getD 0
  let s := { s with timer := { s.timer with staged := stagedPeriod target s.acq.controls.cadence.n e } }
  match s.acq.state with
  | .locking =>
    let good := if e.natAbs ≤ target / 64 then s.acq.good + 1 else 0
    let s := { s with acq := { s.acq with good := good } }
    if Config.lockPairs ≤ good then s.moveTo .locked [] else s
  | .locked =>
    let bad := if target / 16 < e.natAbs then s.acq.bad + 1 else 0
    let s := { s with acq := { s.acq with bad := bad } }
    if Config.unlockPairs ≤ bad then s.moveTo .locking [] else s
  | _ => s

/-- R12: a cadence point arrives. -/
def State.cadencePoint (time : Nat) (s : State) : State :=
  match s.acq.waitStart with
  | some start => { s with acq := { s.acq with waitStart := none } }.pair start time
  | none => { s with acq := { s.acq with waitCadence := some time } }

/-- R12: a position-0 presentation frame start arrives. -/
def State.positionZero (time : Nat) (s : State) : State :=
  match s.acq.waitCadence with
  | some cadence => { s with acq := { s.acq with waitCadence := none } }.pair time cadence
  | none => { s with acq := { s.acq with waitStart := some time } }

/-- R10: an input frame start in the locked states after the alignment point; every D-th is a cadence
point. The frame that begins takes the input frame counter's number (R22). -/
def State.countCadence (time : Nat) (s : State) : State :=
  if s.acq.sinceCadence + 1 < s.acq.controls.cadence.d then
    { s with acq := { s.acq with sinceCadence := s.acq.sinceCadence + 1 } }
  else
    { s with acq := { s.acq with
        sinceCadence := 0
        prevCadence := s.acq.lastCadence
        lastCadence := some s.frames.counter } }.cadencePoint time

/-- R35: the Input Acquisition Controller takes a presentation frame start of the timer. -/
def State.acquisitionStart (s : State) : State :=
  if s.acq.state.isLocked && !s.acq.alignDue && decide (s.timer.position = 0) then
    s.positionZero s.timer.lastStart
  else s

/-! ### Torn and lost input -/

def State.setFrame (f : Option InFrame) (s : State) : State := { s with acq := { s.acq with frame := f } }

/-- R16: a written frame ends torn and the state becomes MEASURING. -/
def State.tearFrame (s : State) : State := s.flagTorn.moveTo .measuring []

/-- R4, R16: entry to NO_SIGNAL through input loss; a written frame is torn. -/
def State.loseInput (s : State) : State :=
  let s := if s.writing?.isSome then s.flagTorn else s
  (s.flagInputLost.moveTo .noSignal []).setFrame none

/-- R20: the controller at entry to standby. -/
def State.standbyInput (s : State) : State :=
  let s := (s.moveTo .noSignal []).setFrame none
  { s with acq := { s.acq with window := [], measured := none, acqTimer := none, holdTimer := none } }

/-- R15: the acquisition timer reaches its limit. -/
def State.acquireTimeout (s : State) : State :=
  ((s.post (.acquireTimeout s.acq.state)).flagAcqTimeout).moveTo .measuring []

end Sys2Proof.Machine
end

