-- ==== Sys2Proof/Machine/Store.lean ====
section
/-! DEFINITION. The Frame Store Controller (Chapter 2): the buffer a frame is written into, the end of
a write, the choice of the frame to show, and slips. -/

namespace Sys2Proof.Machine

/-! ### Buffer records -/

/-- R21: the newest complete buffer and its frame number. -/
def newestComplete (bufs : Three BufRec) : Option (BufNo × BitVec 40) :=
  bufNos.foldl (fun best b =>
    match bufs.get b, best with
    | .complete n _, none => some (b, n)
    | .complete n _, some (_, m) => if m < n then some (b, n) else best
    | _, _ => best) none

/-- R23: of the COMPLETE buffers other than the newest, the one with the lowest frame number. -/
def oldestComplete (bufs : Three BufRec) (newest : Option BufNo) : Option (BufNo × BitVec 40) :=
  bufNos.foldl (fun best b =>
    match bufs.get b, best with
    | .complete n _, none => if newest = some b then none else some (b, n)
    | .complete n _, some (_, m) => if newest = some b then best else if n < m then some (b, n) else best
    | _, _ => best) none

/-- The SHOWING buffer with its frame number and decode revision (R21). -/
def showingBuf (bufs : Three BufRec) : Option (BufNo × BitVec 40 × BitVec 16) :=
  bufNos.foldl (fun best b =>
    match best, bufs.get b with
    | none, .showing n v => some (b, n, v)
    | best, _ => best) none

/-- R27 case 1: the COMPLETE or SHOWING buffer that holds a frame number. -/
def holderOf (e : BitVec 40) (bufs : Three BufRec) : Option BufNo :=
  bufNos.find? fun b =>
    match bufs.get b with
    | .complete n _ => decide (n = e)
    | .showing n _ => decide (n = e)
    | _ => false

def BufRec.toComplete : BufRec → BufRec
  | .showing n v => .complete n v
  | r => r

def BufRec.toShowing : BufRec → BufRec
  | .complete n v => .showing n v
  | r => r

/-- R26: the chosen buffer becomes SHOWING; another that was SHOWING returns to COMPLETE. -/
def showBuffer (b : BufNo) (bufs : Three BufRec) : Three BufRec :=
  (bufs.map BufRec.toComplete).set b ((bufs.map BufRec.toComplete).get b).toShowing

/-- R28: the buffer to change to, if any. -/
def chooseNewest (bufs : Three BufRec) : Option BufNo :=
  match newestComplete bufs, showingBuf bufs with
  | none, _ => none
  | some (b, _), none => some b
  | some (b, n), some (_, m, _) => if m < n then some b else none

/-- R27: the buffer to change to when frame `e` is expected, if any. -/
def chooseExpected (e : BitVec 40) (bufs : Three BufRec) : Option BufNo :=
  match holderOf e bufs with
  | some b => some b
  | none => chooseNewest bufs

/-- R23: the buffer a frame is written into. -/
def chooseForWrite (bufs : Three BufRec) : Option BufNo :=
  match bufNos.find? fun b => decide (bufs.get b = .empty) with
  | some b => some b
  | none => (oldestComplete bufs ((newestComplete bufs).map Prod.fst)).map Prod.fst

/-! ### Writing -/

/-- R22, R23, R24: a write begins at an input frame start in the locked states. -/
def State.beginWrite (s : State) : State :=
  if !s.acq.state.isLocked then s
  else
    match chooseForWrite s.frames.bufs with
    | none => s
    | some b =>
      { s with
        frames := { s.frames with
          bufs := s.frames.bufs.set b (.filling s.frames.counter s.banks.revision)
          counter := s.frames.counter + 1 }
        acq := { s.acq with
          frame := s.acq.frame.map fun f => { f with write := some ⟨b, s.active.scene.decode⟩ } } }

/-- R25: the buffer of a good frame goes from FILLING to COMPLETE. -/
def BufRec.finish : BufRec → BufRec
  | .filling n v => .complete n v
  | r => r

/-- R24, R25: a good frame ends: its buffer is COMPLETE and holds its pixels. -/
def State.completeWrite (w : FrameWrite) (f : InputFrame) (s : State) : State :=
  { s with frames := { s.frames with
      bufs := s.frames.bufs.set w.buf (s.frames.bufs.get w.buf).finish
      mem := s.frames.mem.set w.buf (convertFrame f w.table) } }.dropWrite

/-! ### Showing and slips -/

/-- R26: the frame number the start expects, group base + floor(p × D / N). -/
def State.expected (s : State) : Option (BitVec 40) :=
  s.frames.base.map fun base =>
    base + BitVec.ofNat 40 (s.timer.position * s.acq.controls.cadence.d / s.acq.controls.cadence.n)

def State.changeShowing (b : Option BufNo) (s : State) : State :=
  match b with
  | none => s
  | some b => { s with frames := { s.frames with bufs := showBuffer b s.frames.bufs } }

/-- R30, R31: a slip. -/
def State.countSlip (s : State) : State :=
  let slips := min 65535 (s.frames.slips + 1)
  let s := { s with frames := { s.frames with slips := slips } }.flagSlip
  if s.frames.armed && decide (s.frames.threshold ≤ slips) then
    { s with frames := { s.frames with armed := false } }.post (.slipThreshold slips)
  else s

/-- R27: the choice by the expected frame, with its slip. -/
def State.showExpected (e : BitVec 40) (s : State) : State :=
  let s := s.changeShowing (chooseExpected e s.frames.bufs)
  match showingBuf s.frames.bufs with
  | some (_, n, _) => if n = e then s else s.countSlip
  | none => s.countSlip

/-- R26: the Frame Store Controller takes a presentation frame start. -/
def State.selectFrame (s : State) : State :=
  match s.acq.state, s.expected with
  | .locked, some e => s.showExpected e
  | _, _ => s.changeShowing (chooseNewest s.frames.bufs)

/-- R10, R26: the group base handed at a position-0 start, before any block takes the start. -/
def State.groupBase (s : State) : Option (BitVec 40) :=
  if s.acq.state.isLocked && !s.acq.alignDue then
    if s.acq.waitCadence.isSome then s.acq.prevCadence else s.acq.lastCadence
  else none

/-- The picture every output samples in this frame (R60). -/
def State.showingPicture (s : State) : Option Picture :=
  (showingBuf s.frames.bufs).map fun b => s.frames.mem.get b.1

end Sys2Proof.Machine
end

