-- ==== Sys2Proof/Machine/Channels.lean ====
section
/-! DEFINITION. The Output Channels (Chapter 6): the work of one channel at a presentation frame
start, changes by request, and entry to standby. -/

namespace Sys2Proof.Machine

def State.chan (s : State) (k : Output) : Channel := s.chans.get k

def State.setChan (k : Output) (c : Channel) (s : State) : State :=
  { s with chans := s.chans.set k c }

/-- R104: a change of a channel's state: runs cleared, OUTPUT_STATE posted, and OUTPUT_LOST_k set on
entry to LOST. `c` is the record with the new state. -/
def State.changeChan (k : Output) (c : Channel) (cause : Cause) (s : State) : State :=
  let s := s.setChan k { c with goodRun := 0, badRun := 0 }
  let s := if c.state = .lost then s.flagOutputLost k else s
  s.post (.outputState k c.state cause)

/-- R106: the runs after a sample. -/
def Channel.countSample (good : Bool) (c : Channel) : Channel :=
  if c.state = .disabled then c
  else if good then { c with goodRun := min 255 (c.goodRun + 1), badRun := 0 }
  else { c with badRun := min 15 (c.badRun + 1), goodRun := 0 }

/-- R107, R109: the state the runs, or a bad sample in RETIRING, call for, with its cause. -/
def Channel.sampleChange (good : Bool) (c : Channel) : Option (ChanState × Cause) :=
  match c.state with
  | .acquiring => if c.controls.settle ≤ c.goodRun then some (.active, .settled) else none
  | .active => if c.controls.lossConfirm ≤ c.badRun then some (.lost, .linkLost) else none
  | .lost =>
    if c.controls.settle ≤ c.goodRun then
      some (if c.controls.autoRejoin then .active else .parked, .linkBack)
    else none
  | .parked => if c.controls.lossConfirm ≤ c.badRun then some (.lost, .linkLost) else none
  | .retiring => if good then none else some (.disabled, .linkLost)
  | .disabled => none

/-- R108: the presence for the state held. -/
def Channel.nextPresence (c : Channel) : Nat :=
  match c.state with
  | .disabled => 0
  | .acquiring => 0
  | .active => min Config.one (c.presence + c.controls.rise)
  | .retiring => c.presence - c.controls.fall
  | .lost => if c.controls.policy = .refill then 0 else c.presence
  | .parked => if c.controls.policy = .refill then 0 else c.presence

/-- R119: what the port carries. -/
def Channel.portFor (mode : ModeState) (c : Channel) : PortContent :=
  if c.state = .active ∨ c.state = .retiring then
    match c.controls.path with
    | .normal =>
      match mode.mode with
      | .setup => .pattern .grid c.controls.level
      | .run => .computed
      | .dimming => if mode.remembered = .setup then .pattern .grid c.controls.level else .computed
      | .startup => .code0 -- section 8.4: every channel is DISABLED in STARTUP
      | .standby => .code0 -- R126: every port carries code 0 in STANDBY
    | .flatWarp => .computed
    | .unblended => .computed
    | .pattern => .pattern c.controls.kind c.controls.level
  else .code0

/-- R105 step 5: the frame that begins uses this presence, path mode and port content. -/
def Channel.latch (mode : ModeState) (c : Channel) : Channel :=
  { c with framePresence := c.presence, framePath := c.controls.path, port := c.portFor mode }

/-- R105 steps 1 and 2. -/
def State.chanSample (k : Output) (good : Bool) (s : State) : State :=
  let c := (s.chan k).countSample good
  match c.sampleChange good with
  | none => s.setChan k c
  | some (st, cause) => s.changeChan k { c with state := st } cause

/-- R105 steps 3 and 4. -/
def State.chanPresence (k : Output) (s : State) : State :=
  let c := { s.chan k with presence := (s.chan k).nextPresence }
  if c.state = .retiring ∧ c.presence = 0 then s.changeChan k { c with state := .disabled } .rampDone
  else s.setChan k c

/-- R105: a channel takes a presentation frame start. In STANDBY, entered at this same start, it only
counts its sample, and its port carries code 0 (R126, log 21). -/
def State.channelStart (k : Output) (s : State) : State :=
  let good := s.pins.linkGood.get k
  if s.mode.mode = .standby then s.setChan k (((s.chan k).countSample good).latch s.mode)
  else
    let s := (s.chanSample k good).chanPresence k
    s.setChan k ((s.chan k).latch s.mode)

/-- R126: a channel at entry to standby. -/
def State.chanStandby (k : Output) (s : State) : State :=
  let c := { s.chan k with framePresence := 0, port := .code0 }
  match c.state with
  | .disabled => s.setChan k c
  | .acquiring => s.setChan k { c with presence := 0, goodRun := 0, badRun := 0 }
  | _ => s.changeChan k { c with state := .acquiring, presence := 0 } .standby

/-! ### Changes by request (R112 to R114) -/

/-- R112. -/
def State.enableChan (k : Output) (s : State) : State :=
  match (s.chan k).state with
  | .disabled => s.changeChan k { s.chan k with state := .acquiring } .host
  | .retiring => s.changeChan k { s.chan k with state := .active } .host
  | _ => s

/-- R113. -/
def State.disableChan (k : Output) (s : State) : State :=
  match (s.chan k).state with
  | .active => s.changeChan k { s.chan k with state := .retiring } .host
  | .acquiring => s.changeChan k { s.chan k with state := .disabled } .host
  | .lost => s.changeChan k { s.chan k with state := .disabled, presence := 0 } .host
  | .parked => s.changeChan k { s.chan k with state := .disabled, presence := 0 } .host
  | _ => s

/-- R178: the reply body of the channel requests. -/
def Channel.report (c : Channel) : List Byte := b8 c.state.code ++ b16 c.presence

/-- R125: the enable a profile stores. -/
def Channel.storedEnable (c : Channel) : Bool :=
  match c.state with
  | .acquiring => true
  | .active => true
  | .lost => true
  | .parked => true
  | .disabled => false
  | .retiring => false

/-- R125: what a profile stores of a channel. -/
def Channel.stored (c : Channel) : StoredOutput := ⟨c.controls, c.storedEnable⟩

/-- R125: a channel at a boot load. -/
def State.restoreChan (k : Output) (st : StoredOutput) (s : State) : State :=
  let s := s.setChan k { s.chan k with controls := st.controls }
  if st.enable && decide ((s.chan k).state = .disabled) then
    s.changeChan k { s.chan k with state := .acquiring, presence := 0 } .host
  else s

/-- R39 to R41 and R167: the mode becomes STANDBY, and every block takes the entry. -/
def State.enterStandby (s : State) : State :=
  let s := { s with mode := { s.mode with mode := .standby } }
  let s := s.post (.modeChange .standby)
  let s := { s with timer := { s.timer with running := false } }
  let s := s.standbyInput
  let s := s.emptyBuffers
  (((s.chanStandby 0).chanStandby 1).chanStandby 2).chanStandby 3

/-- R40: the master level moves one step toward the target. -/
def Master.next (m : Master) : Nat :=
  if m.level < m.target then min m.target (m.level + m.step)
  else if m.target < m.level then max m.target (m.level - m.step)
  else m.level

/-- R40, R41: the Master Level unit takes a presentation frame start; in DIMMING, a level of 0 after
the step completes the dimming. -/
def State.masterStart (s : State) : State :=
  let s := { s with master := { s.master with level := s.master.next } }
  if s.mode.mode = .dimming ∧ s.master.level = 0 then s.enterStandby else s

end Sys2Proof.Machine
end

