-- ==== Sys2Proof/Machine/Scenes.lean ====
section
/-! DEFINITION. The Bank Controller (Chapter 7): commit checks, the swap, copy-back, and the view of a
pending bank that is being overwritten. -/

namespace Sys2Proof.Machine

/-! ### Commit checks (R137) -/

/-- R67: COVERAGE_BOUNDS fails. -/
def Coverage.outOfBounds (c : Coverage) (w h : Nat) : Bool :=
  decide (c.right ≤ c.left) || decide (c.bottom ≤ c.top) || decide (w < c.right) || decide (h < c.bottom)

/-- R67: FEATHER_SUM fails. -/
def Coverage.featherTooWide (c : Coverage) : Bool :=
  decide (c.right - c.left < c.fLeft + c.fRight) || decide (c.bottom - c.top < c.fTop + c.fBottom)

/-- R84, R137: the index of the first entry smaller than the entry before it. -/
def firstFall : Nat → List Nat → Option Nat
  | i, a :: b :: rest => if b < a then some (i + 1) else firstFall (i + 1) (b :: rest)
  | _, _ => none

/-- R137: a failed check: the item code, the output, the detail value. -/
structure CommitFault where
  item   : Nat
  output : Option Output
  detail : Nat
  deriving DecidableEq, Repr

/-- R44: the point records a layout uses. -/
def Scene.recordsUsed (sc : Scene) (k : Output) : Nat := sc.cols k * sc.rows k

/-- R137: the first failure found, if any. -/
def Scene.commitFault (sc : Scene) : Option CommitFault :=
  match outputs.find? fun k => decide (Config.meshRecords < sc.recordsUsed k) with
  | some k => some ⟨0, some k, sc.recordsUsed k⟩
  | none =>
    match outputs.find? fun k => (sc.outs.get k).coverage.outOfBounds sc.canvasW sc.canvasH with
    | some k => some ⟨1, some k, 0⟩
    | none =>
      match outputs.find? fun k => (sc.outs.get k).coverage.featherTooWide with
      | some k => some ⟨2, some k, 0⟩
      | none => (firstFall 0 sc.decode).map fun i => ⟨3, none, i⟩

/-- R138, R143: the scene passes every commit validation check. -/
def Scene.valid (sc : Scene) : Bool := sc.commitFault.isNone

/-! ### The swap and copy-back -/

/-- R141: whether the banks swap at a presentation frame start taken now. -/
def Ctl.isStoring : Ctl → Bool
  | .storing _ _ _ => true
  | _ => false

def State.swapDue (s : State) : Bool :=
  decide (s.banks.pendState = .armed) && !s.profiles.ctl.isStoring

def State.setMode (m : PartMode) (s : State) : State := { s with mode := { s.mode with mode := m } }

/-- R163: a change of the part mode, posted. -/
def State.changeMode (m : PartMode) (s : State) : State := (s.setMode m).post (.modeChange m)

/-- R9, R29: the active canvas size has changed: the buffers empty and the Input Acquisition
Controller takes the new size. A frame in progress is no longer written. -/
def State.canvasChanged (s : State) : State := (s.newCanvas.emptyBuffers).dropWrite

/-- R142: roles exchanged, revision advanced, copy-back begun. -/
def Banks.swapped (b : Banks) : Banks :=
  { b with activeIsOne := !b.activeIsOne, revision := b.revision + 1, pendState := .syncing }

/-- R9: whether two scenes differ in canvas size. -/
def Scene.canvasDiffers (a b : Scene) : Bool :=
  decide (a.canvasW ≠ b.canvasW) || decide (a.canvasH ≠ b.canvasH)

/-- R142, R144, R145: a swap. -/
def State.swap (s : State) : State :=
  let differs := s.active.scene.canvasDiffers s.pendingBank.scene
  let s := { s with banks := s.banks.swapped }
  let s := s.post (.bankSwapped s.banks.revision)
  let s := if differs then s.canvasChanged else s
  if s.mode.mode = .setup then s.changeMode .run else s

/-- R141: the Bank Controller takes a presentation frame start. -/
def State.bankStart (s : State) : State := if s.swapDue then s.swap else s

/-- R150: a copy-back completes. -/
def State.finishCopyBack (s : State) : State :=
  ((s.setPendingBank s.active).setPendState .editable).post .bankReady

/-! ### A pending bank that is being overwritten (R48, R135, R151) -/

def mix {α : Type} (pick : Nat → Bool) (i : Nat) (old new : α) : α := if pick i then new else old

/-- Entry by entry, the new one where `pick` takes its number, the old one elsewhere. -/
def mixList {α : Type} (pick : Nat → Bool) : Nat → List α → List α → List α
  | i, o :: os, n :: ns => mix pick i o n :: mixList pick (i + 1) os ns
  | _, os, [] => os
  | _, [], _ :: _ => []

def mixCoverage (pick : Nat → Bool) (i : Nat) (o n : Coverage) : Coverage :=
  ⟨mix pick i o.left n.left, mix pick (i + 1) o.right n.right, mix pick (i + 2) o.top n.top,
   mix pick (i + 3) o.bottom n.bottom, mix pick (i + 4) o.fLeft n.fLeft,
   mix pick (i + 5) o.fRight n.fRight, mix pick (i + 6) o.fTop n.fTop,
   mix pick (i + 7) o.fBottom n.fBottom⟩

def mixRgb (pick : Nat → Bool) (i : Nat) (o n : Rgb) : Rgb :=
  ⟨mix pick i o.r n.r, mix pick (i + 1) o.g n.g, mix pick (i + 2) o.b n.b⟩

def mixOutput (pick : Nat → Bool) (i : Nat) (o n : OutputScene) : OutputScene where
  pitch := mix pick i o.pitch n.pitch
  points := mixList pick (i + 1) o.points n.points
  coverage := mixCoverage pick (i + 1201) o.coverage n.coverage
  tone := ⟨mixRgb pick (i + 1209) o.tone.gain n.tone.gain, mixRgb pick (i + 1212) o.tone.floor n.tone.floor⟩
  encode := mixList pick (i + 1215) o.encode n.encode

/-- Field by field, the new scene's value where `pick` takes the field's number. -/
def mixScene (pick : Nat → Bool) (o n : Scene) : Scene where
  canvasW := mix pick 0 o.canvasW n.canvasW
  canvasH := mix pick 1 o.canvasH n.canvasH
  rasterW := mix pick 2 o.rasterW n.rasterW
  rasterH := mix pick 3 o.rasterH n.rasterH
  ceiling := mix pick 4 o.ceiling n.ceiling
  decode := mixList pick 5 o.decode n.decode
  outs :=
    ⟨mixOutput pick 1000 o.outs.o0 n.outs.o0, mixOutput pick 3000 o.outs.o1 n.outs.o1,
     mixOutput pick 5000 o.outs.o2 n.outs.o2, mixOutput pick 7000 o.outs.o3 n.outs.o3⟩

def mixFlags (pick : Nat → Bool) (o n : Four (List Bool)) : Four (List Bool) :=
  ⟨mixList pick 10000 o.o0 n.o0, mixList pick 12000 o.o1 n.o1, mixList pick 14000 o.o2 n.o2,
   mixList pick 16000 o.o3 n.o3⟩

/-- What a profile area holds of a profile, if anything. -/
def Area.profile? : Area → Option Profile
  | .blank => none
  | .held p => some p
  | .torn p => some p
  | .blanking p => some p
  | .unblanked p => some p

def ProfileStore.area (p : ProfileStore) (n : ProfileNo) : Area := p.flash.areas.getD n.val .blank

/-- R48, R135: the pending bank as a read finds it: each field new where the copy or load has reached
it, old otherwise (free values, log 15). -/
def State.pendingView (s : State) : BankStore :=
  let pick := Config.copyReached s.free
  match s.banks.pendState, s.profiles.ctl with
  | .syncing, _ =>
    ⟨mixScene pick s.pendingBank.scene s.active.scene, mixFlags pick s.pendingBank.flags s.active.flags⟩
  | .loading, .loading n _ =>
    match (s.profiles.area n).profile? with
    | some p => ⟨mixScene pick s.pendingBank.scene p.scene, s.pendingBank.flags⟩
    | none => s.pendingBank
  | _, _ => s.pendingBank

/-- R48, R135: the bank a read selects; true is PENDING. -/
def State.readBank (pending : Bool) (s : State) : BankStore :=
  if pending then s.pendingView else s.active

end Sys2Proof.Machine
end

