-- ==== Sys2Proof/Machine/Start.lean ====
section
/-! DEFINITION. A presentation frame start (R35) and the blocks that take it: the timer's own start,
the start at an alignment point (R11) and the start at wake (R38); the probe (R97) and the code a port
carries at a pixel. -/

namespace Sys2Proof.Machine

/-! ### Pixels of the frame in progress -/

def State.framePresences (s : State) : Four Nat := s.chans.map Channel.framePresence

/-- R97: the stages of pixel (u, v) of output `k` in the frame in progress, under a path mode. -/
def State.pixelStages (path : PathMode) (k : Output) (u v : Nat) (s : State) : PixelStages :=
  s.active.stages s.showingPicture s.framePresences s.master.level path k u v

/-- R94, R118, R119: the code that output `k`'s port carries at pixel (u, v) in the frame in
progress. -/
def State.portCode (k : Output) (u v : Nat) (s : State) : Rgb :=
  let c := s.chan k
  emittedCode s.active.scene c.port (s.pixelStages c.framePath k u v) k u v

/-- R97 to R100: the result record of a probe, in the frame that has begun. -/
def State.probeResult (k : Output) (u v : Nat) (s : State) : ProbeResult :=
  let path := (s.chan k).framePath
  let inside := decide (u < s.active.scene.rasterW) && decide (v < s.active.scene.rasterH)
  { output := k, u := u, v := v, path := path
    revision := s.banks.revision, stamp := s.timer.counter
    stages := if inside then some (s.pixelStages path k u v) else none
    showing := if inside then (showingBuf s.frames.bufs).map fun b => (b.1, b.2.2) else none
    emitted := if inside then s.portCode k u v else black }

/-- R100: the Probe unit posts PROBE_READY at the serving start. -/
def State.probePost (s : State) : State :=
  match s.probe with
  | .waiting k _ _ => s.post (.probeReady k)
  | _ => s

/-- R97: a waiting probe is served with the values the start's work leaves. -/
def State.probeServe (s : State) : State :=
  match s.probe with
  | .waiting k u v => { s with probe := .ready (s.probeResult k u v) }
  | _ => s

/-! ### Delivering a start -/

/-- R35: the takers of a start. -/
def allTakers : List Taker :=
  [.frameStore, .channel 0, .channel 1, .channel 2, .channel 3, .bank, .master, .acquisition, .probe,
   .write]

/-- First occurrences only. -/
def firsts : List Taker → List Taker → List Taker
  | _, [] => []
  | seen, t :: ts => if t ∈ seen then firsts seen ts else t :: firsts (t :: seen) ts

/-- Log 2: the order named by the command, then the takers it does not name; each taker once. -/
def takeOrder (order : List Taker) : List Taker := firsts [] (order ++ allTakers)

/-- One taker takes the start. At an alignment point the start is not paired (R11) and the frame
write of the same input frame start is among the takers (R24, log 27). -/
def State.take (align : Bool) (t : Taker) (s : State) : State :=
  match t with
  | .frameStore => s.selectFrame
  | .channel k => s.channelStart k
  | .bank => s.bankStart
  | .master => s.masterStart
  | .acquisition => if align then s else s.acquisitionStart
  | .probe => s.probePost
  | .write => if align then s.beginWrite else s

/-- R35: the start is delivered; after each taker the master target follows its conditions (R39). -/
def State.deliver (align : Bool) (env : Env) (s : State) : State :=
  let s := { s with pins := { s.pins with linkGood := env.link } }
  ((takeOrder env.order).foldl (fun s t => (s.take align t).retarget) s).probeServe

/-- R35: the cadence position after an advance. -/
def nextPosition (position n : Nat) : Nat := if n ≤ position + 1 then 0 else position + 1

/-- R10: the group base is handed at a position-0 start. -/
def State.handBase (s : State) : State :=
  if s.timer.position = 0 then { s with frames := { s.frames with base := s.groupBase } } else s

/-- R35: the timer's own presentation frame start, when the current period has passed. -/
def State.timerStart (env : Env) (s : State) : State :=
  let s := { s with timer := { s.timer with
    lastStart := s.timer.lastStart + s.timer.current
    current := s.timer.staged
    position := nextPosition s.timer.position s.acq.controls.cadence.n
    counter := s.timer.counter + 1 } }
  s.handBase.deliver false env

/-- R11, R35: the alignment point at an input frame start: a presentation frame start at once, at
position 0, with the target period; it becomes the first cadence point. -/
def State.align (time : Nat) (env : Env) (s : State) : State :=
  let target := s.acq.target.getD s.timer.current
  let s := { s with
    timer := { s.timer with
      lastStart := time, current := target, staged := target, position := 0
      counter := s.timer.counter + 1 }
    acq := { s.acq with
      alignDue := false, sinceCadence := 0
      lastCadence := some s.frames.counter, prevCadence := none }
    frames := { s.frames with base := none } }
  s.deliver true env

/-- R38: the timer restarts at wake with a start at once. -/
def State.wakeStart (env : Env) (s : State) : State :=
  let s := { s with timer := { s.timer with
    mode := .free, running := true, current := s.timer.staged, position := 0
    counter := s.timer.counter + 1 } }
  s.handBase.deliver false env

/-- R166, R168: a taken WAKE, or WAKE_N falling. -/
def State.wakeUp (env : Env) (s : State) : State :=
  match s.mode.mode with
  | .dimming => (s.changeMode s.mode.remembered.toMode).retarget
  | .standby => ((s.changeMode s.mode.remembered.toMode).retarget).wakeStart env
  | _ => s

/-! ### Input frame starts -/

/-- R1: the record of the frame before an input frame start; none where it was cut short. -/
def InFrame.record (f : InFrame) (time : Nat) : Option FrameRecord :=
  f.size.map fun sz => ⟨sz.1, sz.2, time - f.start⟩

/-- R10, R11, R16, R23: an input frame start in a locked state, the frame before not being a written
frame cut short. -/
def State.lockedStart (time : Nat) (env : Env) (s : State) : State :=
  let s := s.setFrame (some ⟨time, none, none⟩)
  if s.acq.state = .locking ∧ s.acq.alignDue then s.align time env
  else (s.countCadence time).beginWrite

/-- R4: the guard has expired before a start that comes more than 50 ms after the latest one
(log 7). -/
def State.guardBefore (time : Nat) (s : State) : State :=
  match s.acq.frame with
  | none => s
  | some f =>
    if s.acq.state ≠ .noSignal ∧ f.start + Config.guardLimit < time then s.loseInput else s

/-- R1, R5, R6, R8, R10, R16: an input frame start with INPUT_VALID high. -/
def State.inputStart (time : Nat) (env : Env) (s : State) : State :=
  let s := s.guardBefore time
  match s.acq.state with
  | .noSignal => (s.moveTo .measuring []).setFrame (some ⟨time, none, none⟩)
  | .locking | .locked =>
    if s.writing?.isSome then s.tearFrame.setFrame (some ⟨time, none, none⟩)
    else s.lockedStart time env
  | _ => (s.takeRecord (s.acq.frame.bind fun f => f.record time)).setFrame (some ⟨time, none, none⟩)

/-- R1, R16, R25: an input frame end with INPUT_VALID high, of the frame in progress. -/
def State.inputEnd (frame : InputFrame) (s : State) : State :=
  match s.acq.frame with
  | none => s
  | some f =>
    if f.size.isSome then s
    else
      let size := activeSize frame
      let s := s.setFrame (some { f with size := some size })
      match f.write with
      | none => s
      | some w =>
        if s.acq.measured.map (fun m => (m.width, m.height)) = some size then s.completeWrite w frame
        else s.tearFrame

end Sys2Proof.Machine
end

