-- ==== Sys2Proof/Machine/Flash.lean ====
section
/-! DEFINITION. The Profile Store Controller (Chapter 8): the flash and its directory, the start-up
scan, the boot load, and the ends of the flash operations. -/

namespace Sys2Proof.Machine

/-! ### Pieces -/

/-- R153: the header kept with a profile's contents. -/
def Profile.header (p : Profile) : Header := ⟨p.revision, p.label, p.scene.canvasW, p.scene.canvasH⟩

def ProfileStore.entry (p : ProfileStore) (n : ProfileNo) : Entry := p.entries.getD n.val emptyEntry

/-- Whether an entry reads SOUND, if it is not EMPTY (R153). -/
def Entry.sound? (e : Entry) : Option Bool := e.held.map Prod.fst

def ProfileStore.setEntry (n : ProfileNo) (e : Entry) (p : ProfileStore) : ProfileStore :=
  { p with entries := p.entries.set n.val e }

def ProfileStore.setHeld (n : ProfileNo) (h : Option (Bool × Header)) (p : ProfileStore) :
    ProfileStore :=
  p.setEntry n { p.entry n with held := h }

def ProfileStore.setArea (n : ProfileNo) (a : Area) (p : ProfileStore) : ProfileStore :=
  { p with flash := { p.flash with areas := p.flash.areas.set n.val a } }

def ProfileStore.setCtl (c : Ctl) (p : ProfileStore) : ProfileStore := { p with ctl := c }

def State.onProfiles (f : ProfileStore → ProfileStore) (s : State) : State :=
  { s with profiles := f s.profiles }

/-- R155: a completion posts PROFILE_DONE. -/
def State.profileDone (n : Option ProfileNo) (op : ProfileOp) (r : ProfileResult) (s : State) : State :=
  s.post (.profileDone n op r)

/-! ### The directory area (R154) -/

def DirCopy.directory? : DirCopy → Option Directory
  | .held d => some d
  | _ => none

/-- R154: of two copies that passed, the newer is the one whose generation is one above the other's,
or copy 0 where neither is; when only one passed, it is the newer. False is copy 0. -/
def newerCopy : Option Directory → Option Directory → Option (Bool × Directory)
  | some d0, some d1 =>
    if d0.generation = d1.generation + 1 then some (false, d0)
    else if d1.generation = d0.generation + 1 then some (true, d1)
    else some (false, d0)
  | some d0, none => some (false, d0)
  | none, some d1 => some (true, d1)
  | none, none => none

/-- The newer copy as the controller knows it. -/
def ProfileStore.newer (p : ProfileStore) : Option (Bool × Directory) :=
  newerCopy (if p.pass0 then p.flash.copy0.directory? else none)
    (if p.pass1 then p.flash.copy1.directory? else none)

/-- R154: the copy a directory write writes, the older one, or copy 0 when neither passes. -/
def ProfileStore.writeTarget (p : ProfileStore) : Bool :=
  match p.newer with
  | some (c, _) => !c
  | none => false

/-- R154: the generation a directory write gives. -/
def ProfileStore.nextGeneration (p : ProfileStore) : BitVec 32 :=
  match p.newer with
  | some (_, d) => d.generation + 1
  | none => 1

def ProfileStore.setCopy (c : Bool) (d : DirCopy) (passes : Bool) (p : ProfileStore) : ProfileStore :=
  if c then { p with flash := { p.flash with copy1 := d }, pass1 := passes }
  else { p with flash := { p.flash with copy0 := d }, pass0 := passes }

/-- R154, R162: a directory write begins: the copy it writes holds nothing that passes. -/
def ProfileStore.beginDirectory (p : ProfileStore) : ProfileStore := p.setCopy p.writeTarget .torn false

/-- R154: a directory write ends with this boot choice and these counts; `written` says whether it was
written and verified. -/
def ProfileStore.endDirectory (written : Bool) (boot : Option ProfileNo) (counts : List Nat)
    (p : ProfileStore) : ProfileStore :=
  p.setCopy p.writeTarget (.held ⟨p.nextGeneration, boot, counts⟩) written

def ProfileStore.counts (p : ProfileStore) : List Nat := p.entries.map Entry.writeCount

/-! ### The start-up scan (R154, R156) -/

/-- R154: the scan reads the directory; `pass0` and `pass1` say whether the check of a copy that
holds one passes. DESIGN CHOICE (log 42): the manual does not say whether a copy whose write a reset cut
can read blank, and here it never does, so that without a passing copy PROFILE_BAD is set. -/
def State.scanDirectory (pass0 pass1 : Bool) (s : State) : State :=
  let p := s.profiles
  let ok0 := pass0 && p.flash.copy0.directory?.isSome
  let ok1 := pass1 && p.flash.copy1.directory?.isSome
  let p := { p with pass0 := ok0, pass1 := ok1, dirRead := true }
  let found := p.newer
  let boot := found.bind fun x => x.2.boot
  let counts := match found with
    | some x => x.2.counts
    | none => List.replicate 8 0
  let entries := p.entries.mapIdx fun i e =>
    if i < p.examined then { e with writeCount := counts.getD i 0 } else e
  let s := { s with profiles := { p with boot := boot, scanCounts := counts, entries := entries } }
  let blank := decide (s.profiles.flash.copy0 = DirCopy.blank) && decide (s.profiles.flash.copy1 = DirCopy.blank)
  if found.isNone && !blank then s.flagProfileBad else s

/-- R154: a half-blanked area's header, as the area holds it: free values (log 13). -/
def blankedHeader (n : Nat) : Header :=
  ⟨Config.blankedRevision n, Config.blankedLabel n, (Config.blankedWidth n).toNat,
    (Config.blankedHeight n).toNat⟩

/-- R154, R162: what the scan finds in a profile area. The reading decides, but for an area whose store
a reset cut, and for one whose blanking a reset cut, which R162 gives. -/
def scanArea (a : Area) (r : AreaReading) (free : Nat) : Option (Bool × Header) :=
  match a, r with
  | .blank, _ => none
  | .held _, .blank => none
  | .held p, .passes => some (true, p.header)
  | .held p, .fails => some (false, p.header)
  | .torn p, _ => some (false, p.header)
  | .blanking _, .blank => none
  | .blanking _, _ => some (false, blankedHeader free)
  | .unblanked _, .blank => none
  | .unblanked p, .passes => some (true, p.header)
  | .unblanked _, .fails => some (false, blankedHeader free)

/-- R154: what the area holds once the scan has read it. R162 speaks of the scan that follows a cut
operation; at later scans the reading decides (log 41). -/
def scannedArea (a : Area) (r : AreaReading) : Area :=
  match a, r with
  | .blank, _ => .blank
  | .held _, .blank => .blank
  | .held p, _ => .held p
  | .torn p, _ => .held p
  | .blanking _, .blank => .blank
  | .blanking p, _ => .unblanked p
  | .unblanked _, .blank => .blank
  | .unblanked p, .passes => .held p
  | .unblanked p, .fails => .unblanked p

/-- R154, R156: the scan reads the next profile area. -/
def State.scanNext (r : AreaReading) (s : State) : State :=
  match profile? s.profiles.examined with
  | none => s
  | some n =>
    let a := s.profiles.area n
    let found := scanArea a r s.free
    let s := s.bumpFree.onProfiles fun p =>
      { (p.setArea n (scannedArea a r)).setEntry n ⟨found, p.scanCounts.getD n.val 0⟩ with examined := p.examined + 1 }
    if found.map Prod.fst = some false then s.flagProfileBad else s

/-- R156: one part of the scan. -/
def State.scanStep (r : ScanReading) (s : State) : State :=
  match r with
  | .directory pass0 pass1 => if s.profiles.dirRead then s else s.scanDirectory pass0 pass1
  | .area reading => s.scanNext reading

/-- Log 17: how an area reads where no command said so: contents whole pass their check. -/
def Area.usualReading : Area → AreaReading
  | .blank => .blank
  | .held _ => .passes
  | .torn _ => .fails
  | .blanking _ => .fails
  | .unblanked _ => .fails

/-- How the area that the scan reads next reads where no command said so. -/
def ProfileStore.nextReading (p : ProfileStore) : AreaReading :=
  (p.flash.areas.getD p.examined .blank).usualReading

/-- Log 17: the parts not yet read are read as the flash holds them. -/
def State.scanAreas : Nat → State → State
  | 0, s => s
  | n + 1, s => (s.scanNext s.profiles.nextReading).scanAreas n

def State.scanRest (s : State) : State :=
  ((s.scanStep (.directory true true)).scanAreas (8 - s.profiles.examined))

/-! ### The boot load (R152, R165) -/

/-- R152: both bank stores take the profile's scene, with flags derived. -/
def Banks.booted (b : Banks) (p : Profile) : Banks :=
  { b with store0 := p.scene.derived, store1 := p.scene.derived, revision := p.revision
           pendState := .editable }

/-- R165: a boot load of a SOUND profile. -/
def State.bootLoad (p : Profile) (s : State) : State :=
  let differs := s.active.scene.canvasDiffers p.scene
  let s := { s with banks := s.banks.booted p }
  let s := s.applyInputControls p.input
  let s := if differs then s.canvasChanged else s
  (((s.restoreChan 0 p.outs.o0).restoreChan 1 p.outs.o1).restoreChan 2 p.outs.o2).restoreChan 3 p.outs.o3

/-- R165: acting on the boot choice. -/
def State.boot (s : State) : State :=
  match s.profiles.boot with
  | none => (s.profileDone none .boot .ok).changeMode .setup
  | some n =>
    match (s.profiles.entry n).sound?, (s.profiles.area n).profile? with
    | none, _ =>
      let s := s.onProfiles fun p => { p with boot := none }
      ((s.profileDone (some n) .boot .failed).flagProfileBad).changeMode .setup
    | some true, some p => ((s.profileDone (some n) .boot .ok).bootLoad p).changeMode .run
    | some _, _ => ((s.profileDone (some n) .boot .badCheck).flagProfileBad).changeMode .setup

/-- R165: the scan completes. -/
def State.finishScan (s : State) : State :=
  let s := s.scanRest
  let s := s.onProfiles (ProfileStore.setCtl .idle)
  s.boot.retarget

/-! ### Operations and their completions (R157 to R161) -/

/-- R157, R151: a load completes. -/
def State.finishLoad (n : ProfileNo) (arm good : Bool) (s : State) : State :=
  let s := s.onProfiles (ProfileStore.setCtl .idle)
  match good, (s.profiles.area n).profile? with
  | true, some p =>
    let s := s.setPendingBank p.scene.derived
    (s.setPendState (if arm then .armed else .editable)).profileDone (some n) .load .ok
  | _, p =>
    let old := s.pendingBank
    let loaded := p.elim old.scene Profile.scene
    let s := s.setPendingBank ⟨mixScene (Config.loadReached s.free) old.scene loaded, old.flags⟩
    let s := (s.setPendState .syncing).bumpFree
    let s := s.onProfiles fun q =>
      q.setHeld n ((q.entry n).held.map fun h => (false, h.2))
    (s.profileDone (some n) .load .badCheck).flagProfileBad

/-- R158: the contents a store captures. -/
def State.captureProfile (revision : BitVec 16) (label : List Byte) (s : State) : Profile where
  scene := s.active.scene
  input := s.acq.controls
  outs := s.chans.map Channel.stored
  revision := revision
  label := label

/-- R158, R162: a store is taken: its area is being written. -/
def ProfileStore.beginStore (n : ProfileNo) (image : Profile) (p : ProfileStore) : ProfileStore :=
  (p.setArea n (.torn image)).setCtl (.storing n image false)

/-- R162: an area being blanked. -/
def Area.blankingOf : Area → Area
  | .blank => .blank
  | .held p => .blanking p
  | .torn p => .blanking p
  | .blanking p => .blanking p
  | .unblanked p => .blanking p

/-- R160, R154: an area that an erase ended on and left not blank: later scans decide it by their
reading (log 41). -/
def Area.leftNotBlank : Area → Area
  | .blank => .blank
  | .held p => .unblanked p
  | .torn p => .unblanked p
  | .blanking p => .unblanked p
  | .unblanked p => .unblanked p

/-- R160, R162: an erase is taken: its area is being blanked. -/
def ProfileStore.beginErase (n : ProfileNo) (p : ProfileStore) : ProfileStore :=
  (p.setArea n (p.area n).blankingOf).setCtl (.erasing n (p.area n).blankingOf false)

/-- R161: a boot choice write is taken. -/
def ProfileStore.beginBoot (boot : Option ProfileNo) (p : ProfileStore) : ProfileStore :=
  p.beginDirectory.setCtl (.writingDirectory boot)

/-- R162: a store has written and verified its area, or an erase has blanked its area, and the
directory write begins. -/
def ProfileStore.beginDirectoryPhase (p : ProfileStore) : ProfileStore :=
  match p.ctl with
  | .storing n image false =>
    ((p.setArea n (.held image)).beginDirectory).setCtl (.storing n image true)
  | .erasing n erased false =>
    ((p.setArea n .blank).beginDirectory).setCtl (.erasing n erased true)
  | _ => p

/-- R153: the counts of the directory with profile `n` risen by one, saturating at 255. -/
def raiseCount (n : ProfileNo) (counts : List Nat) : List Nat :=
  counts.set n.val (min 255 (counts.getD n.val 0 + 1))

/-- R159: the directory write of a store ends. -/
def ProfileStore.endStore (n : ProfileNo) (image : Profile) (verified written : Bool)
    (p : ProfileStore) : ProfileStore :=
  let count := (p.entry n).writeCount
  let p := p.endDirectory written p.boot (raiseCount n p.counts)
  (p.setEntry n ⟨some (verified, image.header), if written then min 255 (count + 1) else count⟩).setCtl
    .idle

/-- R159: a store completes. -/
def State.finishStore (n : ProfileNo) (image : Profile) (verified written : Bool) (s : State) : State :=
  let s := s.onProfiles (fun p => (p.beginDirectoryPhase).endStore n image verified written)
  if verified && written then s.profileDone (some n) .store .ok
  else (s.profileDone (some n) .store .failed).flagProfileBad

/-- R160: the boot choice the directory write of an erase records. -/
def bootWithout (n : ProfileNo) (boot : Option ProfileNo) : Option ProfileNo :=
  if boot = some n then none else boot

/-- R160: the directory write of an erase ends. -/
def ProfileStore.endErase (n : ProfileNo) (erased : Area) (blank written : Bool) (p : ProfileStore) :
    ProfileStore :=
  let p := p.endDirectory written (bootWithout n p.boot) p.counts
  let p := if written then { p with boot := bootWithout n p.boot } else p
  let p := if blank then p.setHeld n none
    else (p.setArea n erased.leftNotBlank).setHeld n ((p.entry n).held.map fun h => (false, h.2))
  p.setCtl .idle

/-- R160: an erase completes. -/
def State.finishErase (n : ProfileNo) (erased : Area) (blank written : Bool) (s : State) : State :=
  let s := s.onProfiles (fun p => (p.beginDirectoryPhase).endErase n erased blank written)
  if blank && written then s.profileDone (some n) .erase .ok
  else (s.profileDone (some n) .erase .failed).flagProfileBad

/-- R161: a boot choice write completes. -/
def State.finishBootWrite (boot : Option ProfileNo) (written : Bool) (s : State) : State :=
  let s := s.onProfiles fun p =>
    let p := p.endDirectory written boot p.counts
    { p.setCtl .idle with boot := if written then boot else p.boot }
  if written then s.profileDone boot .setBoot .ok
  else (s.profileDone boot .setBoot .failed).flagProfileBad

end Sys2Proof.Machine
end

