-- ==== Sys2Proof/Machine/Completions.lean ====
section
/-! DEFINITION. Commands that end an operation in flight, and the steps of a flash operation (Chapters
7 and 8). A completion of an operation that is not in flight changes nothing (log 4). -/

namespace Sys2Proof.Machine

/-- COPY_BACK_COMPLETION (R150). -/
def execCopyBackCompletion (s : State) : Host.Outcome State Fault Refusal :=
  .next (if s.banks.pendState = .syncing then s.finishCopyBack else s)

/-- LOAD_COMPLETION (R157): `good` says whether the contents read pass their check. -/
def execLoadCompletion (good : Bool) (s : State) : Host.Outcome State Fault Refusal :=
  .next (match s.profiles.ctl with
    | .loading n arm => s.finishLoad n arm good
    | _ => s)

/-- STORE_COMPLETION (R159): `verified` is the result of the area, `written` of the directory write. -/
def execStoreCompletion (verified written : Bool) (s : State) : Host.Outcome State Fault Refusal :=
  .next (match s.profiles.ctl with
    | .storing n image _ => s.finishStore n image verified written
    | _ => s)

/-- ERASE_COMPLETION (R160): `blank` is the result of the blanking, `written` of the directory write. -/
def execEraseCompletion (blank written : Bool) (s : State) : Host.Outcome State Fault Refusal :=
  .next (match s.profiles.ctl with
    | .erasing n erased _ => s.finishErase n erased blank written
    | _ => s)

/-- DIRECTORY_COMPLETION (R161): `written` says whether the copy was written and verified. -/
def execDirectoryCompletion (written : Bool) (s : State) : Host.Outcome State Fault Refusal :=
  .next (match s.profiles.ctl with
    | .writingDirectory boot => s.finishBootWrite boot written
    | _ => s)

/-- SCAN_COMPLETION (R165). -/
def execScanCompletion (s : State) : Host.Outcome State Fault Refusal :=
  .next (if s.profiles.ctl = .scanning then s.finishScan else s)

/-- PROFILE_AREA_EXAMINED (R154, R156). -/
def execProfileAreaExamined (reading : ScanReading) (s : State) : Host.Outcome State Fault Refusal :=
  .next (if s.profiles.ctl = .scanning then s.scanStep reading else s)

/-- DIRECTORY_WRITE_BEGIN (R162). -/
def execDirectoryWriteBegin (s : State) : Host.Outcome State Fault Refusal :=
  .next (s.onProfiles ProfileStore.beginDirectoryPhase)

end Sys2Proof.Machine
end

