-- ==== Sys2Proof/Machine/InputEvents.lean ====
section
/-! DEFINITION. Commands of the input port and the acquisition timers (Chapter 1). While the part is in
STANDBY the input port is ignored (R20). An event that cannot arrive in the state it finds changes
nothing (log 4). -/

namespace Sys2Proof.Machine

/-- R20: while in standby, neither INPUT_VALID nor any frame event acts. -/
def State.inputIgnored (s : State) : Bool := decide (s.mode.mode = .standby)

/-- R1: the level of INPUT_VALID as presented. -/
def State.presentValid (valid : Bool) (s : State) : State :=
  { s with pins := { s.pins with inputValid := valid } }

/-- INPUT_VALID_FALL (R4): in NO_SIGNAL it has no effect. -/
def execInputValidFall (s : State) : Host.Outcome State Fault Refusal :=
  let s := s.presentValid false
  .next (if s.inputIgnored || decide (s.acq.state = .noSignal) then s else s.loseInput.retarget)

/-- INPUT_FRAME_START (R1): ignored while INPUT_VALID is low. -/
def execInputFrameStart (valid : Bool) (time : Nat) (env : Env) (s : State) :
    Host.Outcome State Fault Refusal :=
  let s := s.presentValid valid
  .next (if s.inputIgnored || !s.pins.inputValid then s else (s.inputStart time env).retarget)

/-- INPUT_FRAME_END (R1, R25): ignored while INPUT_VALID is low. -/
def execInputFrameEnd (valid : Bool) (frame : InputFrame) (s : State) :
    Host.Outcome State Fault Refusal :=
  let s := s.presentValid valid
  .next (if s.inputIgnored || !s.pins.inputValid then s else (s.inputEnd frame).retarget)

/-- INPUT_LOSS_GUARD_EXPIRY (R4): the guard runs in every state except NO_SIGNAL. -/
def execInputLossGuardExpiry (s : State) : Host.Outcome State Fault Refusal :=
  .next (if s.acq.state = .noSignal then s else s.loseInput.retarget)

/-- ACQUISITION_TIMER_EXPIRY (R15). -/
def execAcquisitionTimerExpiry (s : State) : Host.Outcome State Fault Refusal :=
  .next (if s.acq.acqTimer.isSome then s.acquireTimeout.retarget else s)

/-- HOLD_TIMER_EXPIRY (R17): picture stops being allowed. -/
def execHoldTimerExpiry (s : State) : Host.Outcome State Fault Refusal :=
  .next (if s.acq.holdTimer.isSome then
    ({ s with acq := { s.acq with holdTimer := none } } : State).retarget else s)

end Sys2Proof.Machine
end

