-- ==== Sys2Proof/Machine/Presentation.lean ====
section
/-! DEFINITION. The presentation frame start, and the requests of Chapter 2. -/

namespace Sys2Proof.Machine

/-- PRESENTATION_FRAME_START (R35): none comes while the timer is stopped (R38). -/
def execPresentationFrameStart (env : Env) (s : State) : Host.Outcome State Fault Refusal :=
  .next (if s.timer.running then s.timerStart env else s)

/-- R37. -/
def actSetFreePeriod (body : List Byte) (s : State) : State :=
  let v := u32At body 0
  let p := clamp Config.minPeriod Config.maxPeriod v
  let previous := b32 s.timer.free
  ({ s with timer := { s.timer with
      free := p
      staged := if s.timer.mode = .free then p else s.timer.staged } } : State).answer
    (okOr (clamps Config.minPeriod Config.maxPeriod v)) previous

def doSetFreePeriod (body : List Byte) (s : State) : State :=
  request (decide (body.length = 4)) false (actSetFreePeriod body) s

/-- SET_FREE_PERIOD (R37). -/
def execSetFreePeriod (tag : Byte) (body : List Byte) (s : State) : Host.Outcome State Fault Refusal :=
  .next (s.submit ⟨0x18, tag, body⟩ (doSetFreePeriod body))

/-- R176: the value of a field whose mark may be clear: carried and in its list, or kept; none when
carried and out of its list. -/
def carried {α : Type} (marked : Bool) (value : Option α) (kept : α) : Option α :=
  if marked then value else some kept

/-- R177: a field of a settings reply: the previous value where marked, 0 elsewhere. -/
def prior (marked : Bool) (value : Nat) : Nat := if marked then value else 0

/-- R42. -/
def actSetMaster (body : List Byte) (s : State) : State :=
  let marks := byteAt body 0
  match carried (mark marks 0) (onOff? (byteAt body 1)) s.master.mute with
  | none => s.refuse .badArgument
  | some mute =>
    let v := u16At body 2
    let step := if mark marks 1 then clamp 1 Config.one v else s.master.step
    let previous := b8 marks ++ b8 (prior (mark marks 0) (boolCode s.master.mute)) ++
      b16 (prior (mark marks 1) s.master.step)
    ({ s with master := { s.master with mute := mute, step := step } } : State).retarget.answer
      (okOr (mark marks 1 && clamps 1 Config.one v)) previous

def doSetMaster (body : List Byte) (s : State) : State :=
  request (decide (body.length = 4)) false (actSetMaster body) s

/-- SET_MASTER (R42). -/
def execSetMaster (tag : Byte) (body : List Byte) (s : State) : Host.Outcome State Fault Refusal :=
  .next (s.submit ⟨0x19, tag, body⟩ (doSetMaster body))

/-- R32: the reply of READ_COUNTERS. -/
def State.counterReport (s : State) : List Byte :=
  b16 s.frames.slips ++ b16 s.frames.threshold ++ b8 (boolCode s.frames.armed) ++
  b40 s.frames.counter.toNat ++ b32 s.timer.counter.toNat

/-- R32: after the reply is formed, the slip counter becomes 0 and the threshold is armed. -/
def actReadCounters (s : State) : State :=
  ({ s with frames := { s.frames with slips := 0, armed := true } } : State).answer .ok s.counterReport

def doReadCounters (body : List Byte) (s : State) : State :=
  request (decide (body.length = 0)) false actReadCounters s

/-- READ_COUNTERS (R32). -/
def execReadCounters (tag : Byte) (body : List Byte) (s : State) : Host.Outcome State Fault Refusal :=
  .next (s.submit ⟨0x1A, tag, body⟩ (doReadCounters body))

/-- R33. -/
def actSetSlipThreshold (body : List Byte) (s : State) : State :=
  let v := u16At body 0
  ({ s with frames := { s.frames with threshold := clamp 1 65535 v } } : State).answer
    (okOr (clamps 1 65535 v)) (b16 s.frames.threshold)

def doSetSlipThreshold (body : List Byte) (s : State) : State :=
  request (decide (body.length = 2)) false (actSetSlipThreshold body) s

/-- SET_SLIP_THRESHOLD (R33). -/
def execSetSlipThreshold (tag : Byte) (body : List Byte) (s : State) :
    Host.Outcome State Fault Refusal :=
  .next (s.submit ⟨0x1B, tag, body⟩ (doSetSlipThreshold body))

end Sys2Proof.Machine
end

