-- ==== Sys2Proof/Machine/BankRequests.lean ====
section
/-! DEFINITION. The bank requests (Chapters 3, 4, 5 and 7): the edits of the pending bank, the reads of
either bank, COMMIT, DISARM and REVERT. -/

namespace Sys2Proof.Machine

/-! ### Edits -/

/-- R132 stage 2: the admission by pending state. -/
def admitEdit (act : State → State) (s : State) : State :=
  match s.banks.pendState with
  | .editable => act s
  | .armed => s.refuse .armed
  | .syncing => s.refuse .busy
  | .loading => s.refuse .busy

/-- R134: an edit writes fields of the pending scene and leaves the degrade flags as they were. -/
def State.editScene (f : Scene → Scene) (s : State) : State :=
  s.setPendingBank ⟨f s.pendingBank.scene, s.pendingBank.flags⟩

/-- An edit of what the pending bank holds for one output. -/
def State.editOutput (k : Output) (f : OutputScene → OutputScene) (s : State) : State :=
  s.editScene fun sc => { sc with outs := sc.outs.set k (f (sc.outs.get k)) }

/-- A size or ceiling of WRITE_SCENE: written when carried, clamped into its range. -/
def sceneField (marks n lo hi v kept : Nat) : Nat := if mark marks n then clamp lo hi v else kept

def sceneClamps (marks n lo hi v : Nat) : Bool := mark marks n && clamps lo hi v

/-- R133: the scene-wide fields after WRITE_SCENE. -/
def Scene.withBody (sc : Scene) (body : List Byte) : Scene :=
  let marks := byteAt body 0
  { sc with
    canvasW := sceneField marks 0 Config.minWidth Config.maxCanvasW (u16At body 1) sc.canvasW
    canvasH := sceneField marks 1 Config.minHeight Config.maxCanvasH (u16At body 3) sc.canvasH
    rasterW := sceneField marks 2 Config.minWidth Config.maxRasterW (u16At body 5) sc.rasterW
    rasterH := sceneField marks 3 Config.minHeight Config.maxRasterH (u16At body 7) sc.rasterH
    ceiling := sceneField marks 4 1 Config.maxCeiling (byteAt body 9) sc.ceiling }

/-- R133: whether WRITE_SCENE clamps a field. -/
def sceneClamped (body : List Byte) : Bool :=
  let marks := byteAt body 0
  sceneClamps marks 0 Config.minWidth Config.maxCanvasW (u16At body 1) ||
  sceneClamps marks 1 Config.minHeight Config.maxCanvasH (u16At body 3) ||
  sceneClamps marks 2 Config.minWidth Config.maxRasterW (u16At body 5) ||
  sceneClamps marks 3 Config.minHeight Config.maxRasterH (u16At body 7) ||
  sceneClamps marks 4 1 Config.maxCeiling (byteAt body 9)

/-- R133. -/
def actWriteScene (body : List Byte) (s : State) : State :=
  (s.editScene fun sc => sc.withBody body).answer (okOr (sceneClamped body)) []

def doWriteScene (body : List Byte) (s : State) : State :=
  request (decide (body.length = 10)) false (admitEdit (actWriteScene body)) s

/-- WRITE_SCENE (R133). -/
def execWriteScene (tag : Byte) (body : List Byte) (s : State) : Host.Outcome State Fault Refusal :=
  .next (s.submit ⟨0x30, tag, body⟩ (doWriteScene body))

/-- R43: the pitches. -/
def pitch? (v : Nat) : Option Nat := if v = 16 ∨ v = 32 ∨ v = 64 ∨ v = 128 then some v else none

/-- R47. -/
def actWriteLayout (body : List Byte) (s : State) : State :=
  match output? (byteAt body 0), pitch? (byteAt body 1) with
  | some k, some p => (s.editOutput k fun o => { o with pitch := p }).answer .ok []
  | _, _ => s.refuse .badArgument

def doWriteLayout (body : List Byte) (s : State) : State :=
  request (decide (body.length = 2)) false (admitEdit (actWriteLayout body)) s

/-- WRITE_LAYOUT (R47). -/
def execWriteLayout (tag : Byte) (body : List Byte) (s : State) : Host.Outcome State Fault Refusal :=
  .next (s.submit ⟨0x31, tag, body⟩ (doWriteLayout body))

/-- R46, R48, R87, R135: a count of 1 to 64 that stays within `size` entries. -/
def batchFits (first count size : Nat) : Bool :=
  decide (1 ≤ count) && decide (count ≤ 64) && decide (first + count ≤ size)

/-- Writes a batch of entries from index `first` on. -/
def overwrite {α : Type} (first : Nat) (new old : List α) : List α :=
  old.take first ++ (new ++ old.drop (first + new.length))

/-- R179: the point record at an offset of a body, as carried. -/
def pointIn (body : List Byte) (offset : Nat) : Point :=
  ⟨s32At body offset, s32At body (offset + 4), u16At body (offset + 8)⟩

/-- R46: a point record clamped. -/
def Point.clamped (p : Point) : Point :=
  ⟨clampInt Config.minCoord Config.maxCoord p.sx, clampInt Config.minCoord Config.maxCoord p.sy,
    min Config.maxMeshGain p.m⟩

/-- R46: the records WRITE_MESH carries. -/
def meshBatch (body : List Byte) : List Point :=
  (List.range (byteAt body 3)).map fun i => pointIn body (4 + 10 * i)

/-- R46. -/
def actWriteMesh (body : List Byte) (s : State) : State :=
  match output? (byteAt body 0) with
  | none => s.refuse .badArgument
  | some k =>
    if batchFits (u16At body 1) (byteAt body 3) Config.meshRecords then
      let carried := meshBatch body
      let written := carried.map Point.clamped
      (s.editOutput k fun o => { o with points := overwrite (u16At body 1) written o.points }).answer
        (okOr (decide (written ≠ carried))) []
    else s.refuse .badArgument

/-- R173, R178: the length is computed from the count the body carries. -/
def writeMeshFits (body : List Byte) : Bool :=
  decide (4 ≤ body.length) && decide (body.length = 4 + 10 * byteAt body 3)

def doWriteMesh (body : List Byte) (s : State) : State :=
  request (writeMeshFits body) false (admitEdit (actWriteMesh body)) s

/-- WRITE_MESH (R46). -/
def execWriteMesh (tag : Byte) (body : List Byte) (s : State) : Host.Outcome State Fault Refusal :=
  .next (s.submit ⟨0x32, tag, body⟩ (doWriteMesh body))

/-- R179: the coverage record at an offset of a body, as carried. -/
def coverageIn (body : List Byte) (offset : Nat) : Coverage :=
  ⟨u16At body offset, u16At body (offset + 2), u16At body (offset + 4), u16At body (offset + 6),
   u16At body (offset + 8), u16At body (offset + 10), u16At body (offset + 12), u16At body (offset + 14)⟩

/-- R66: a coverage record clamped. -/
def Coverage.clamped (c : Coverage) : Coverage :=
  ⟨min Config.maxCanvasW c.left, min Config.maxCanvasW c.right,
   min Config.maxCanvasH c.top, min Config.maxCanvasH c.bottom,
   min Config.maxFeather c.fLeft, min Config.maxFeather c.fRight,
   min Config.maxFeather c.fTop, min Config.maxFeather c.fBottom⟩

/-- R66. -/
def actWriteCoverage (body : List Byte) (s : State) : State :=
  match output? (byteAt body 0) with
  | none => s.refuse .badArgument
  | some k =>
    let carried := coverageIn body 1
    (s.editOutput k fun o => { o with coverage := carried.clamped }).answer
      (okOr (decide (carried.clamped ≠ carried))) []

def doWriteCoverage (body : List Byte) (s : State) : State :=
  request (decide (body.length = 17)) false (admitEdit (actWriteCoverage body)) s

/-- WRITE_COVERAGE (R66). -/
def execWriteCoverage (tag : Byte) (body : List Byte) (s : State) :
    Host.Outcome State Fault Refusal :=
  .next (s.submit ⟨0x34, tag, body⟩ (doWriteCoverage body))

/-- The tone record at an offset of a body, as carried (R178). -/
def toneIn (body : List Byte) (offset : Nat) : Tone :=
  ⟨⟨u16At body offset, u16At body (offset + 2), u16At body (offset + 4)⟩,
   ⟨u16At body (offset + 6), u16At body (offset + 8), u16At body (offset + 10)⟩⟩

/-- R89: a tone record clamped. -/
def Tone.clamped (t : Tone) : Tone :=
  ⟨⟨min Config.maxToneGain t.gain.r, min Config.maxToneGain t.gain.g, min Config.maxToneGain t.gain.b⟩,
   ⟨min Config.maxFloor t.floor.r, min Config.maxFloor t.floor.g, min Config.maxFloor t.floor.b⟩⟩

/-- R89. -/
def actWriteTone (body : List Byte) (s : State) : State :=
  match output? (byteAt body 0) with
  | none => s.refuse .badArgument
  | some k =>
    let carried := toneIn body 1
    (s.editOutput k fun o => { o with tone := carried.clamped }).answer
      (okOr (decide (carried.clamped ≠ carried))) []

def doWriteTone (body : List Byte) (s : State) : State :=
  request (decide (body.length = 13)) false (admitEdit (actWriteTone body)) s

/-- WRITE_TONE (R89). -/
def execWriteTone (tag : Byte) (body : List Byte) (s : State) : Host.Outcome State Fault Refusal :=
  .next (s.submit ⟨0x35, tag, body⟩ (doWriteTone body))

/-- R176: the table selector: none is the decode table, some the encode table of an output. -/
def table? (v : Nat) : Option (Option Output) :=
  if v = 0 then some none else (output? (v - 1)).map some

/-- R87: the entries WRITE_TABLE carries. -/
def tableBatch (body : List Byte) : List Nat :=
  (List.range (byteAt body 3)).map fun i => u16At body (4 + 2 * i)

/-- R87. -/
def actWriteTable (body : List Byte) (s : State) : State :=
  match table? (byteAt body 0) with
  | none => s.refuse .badArgument
  | some t =>
    if batchFits (u16At body 1) (byteAt body 3) Config.tableEntries then
      let carried := tableBatch body
      match t with
      | none =>
        (s.editScene fun sc => { sc with decode := overwrite (u16At body 1) carried sc.decode }).answer
          .ok []
      | some k =>
        let written := carried.map (min Config.maxCode)
        (s.editOutput k fun o => { o with encode := overwrite (u16At body 1) written o.encode }).answer
          (okOr (decide (written ≠ carried))) []
    else s.refuse .badArgument

/-- R173, R178: the length is computed from the count the body carries. -/
def writeTableFits (body : List Byte) : Bool :=
  decide (4 ≤ body.length) && decide (body.length = 4 + 2 * byteAt body 3)

def doWriteTable (body : List Byte) (s : State) : State :=
  request (writeTableFits body) false (admitEdit (actWriteTable body)) s

/-- WRITE_TABLE (R87). -/
def execWriteTable (tag : Byte) (body : List Byte) (s : State) : Host.Outcome State Fault Refusal :=
  .next (s.submit ⟨0x36, tag, body⟩ (doWriteTable body))

/-! ### Reads -/

/-- `count` entries from index `first` on. -/
def slice {α : Type} (first count : Nat) (l : List α) : List α := (l.drop first).take count

/-- R48, R178: the reply body of READ_MESH. -/
def meshReport (o : OutputScene) (first count : Nat) : List Byte :=
  b8 o.pitch ++ b16 first ++ b8 count ++ ((slice first count o.points).map Point.bytes).flatten

/-- R48. -/
def actReadMesh (body : List Byte) (s : State) : State :=
  match bankSel? (byteAt body 0), output? (byteAt body 1) with
  | some pending, some k =>
    if batchFits (u16At body 2) (byteAt body 4) Config.meshRecords then
      s.bumpFree.answer .ok
        (meshReport ((s.readBank pending).scene.outs.get k) (u16At body 2) (byteAt body 4))
    else s.refuse .badArgument
  | _, _ => s.refuse .badArgument

def doReadMesh (body : List Byte) (s : State) : State :=
  request (decide (body.length = 5)) false (actReadMesh body) s

/-- READ_MESH (R48). -/
def execReadMesh (tag : Byte) (body : List Byte) (s : State) : Host.Outcome State Fault Refusal :=
  .next (s.submit ⟨0x33, tag, body⟩ (doReadMesh body))

/-- R178: the pitches of the four outputs. -/
def Scene.pitchBytes (sc : Scene) : List Byte :=
  b8 sc.outs.o0.pitch ++ b8 sc.outs.o1.pitch ++ b8 sc.outs.o2.pitch ++ b8 sc.outs.o3.pitch

/-- R138, R178: the flagged cells of the four outputs. -/
def BankStore.flaggedBytes (st : BankStore) : List Byte :=
  b16 (st.flaggedCells 0) ++ b16 (st.flaggedCells 1) ++ b16 (st.flaggedCells 2) ++
  b16 (st.flaggedCells 3)

/-- R135, R178: the SCENE item of a bank. -/
def State.sceneReport (st : BankStore) (s : State) : List Byte :=
  b16 s.banks.revision.toNat ++ b8 s.banks.pendState.code ++
  b16 st.scene.canvasW ++ b16 st.scene.canvasH ++ b16 st.scene.rasterW ++ b16 st.scene.rasterH ++
  b8 st.scene.ceiling ++ st.scene.pitchBytes ++ st.flaggedBytes

/-- The selected table of a scene (R176). -/
def Scene.table (sc : Scene) : Option Output → List Nat
  | none => sc.decode
  | some k => (sc.outs.get k).encode

/-- R135: the body of one item of a bank; none when a selector, number or count is out of range. -/
def State.bankItem (body : List Byte) (st : BankStore) (s : State) : Option (List Byte) :=
  match byteAt body 1 with
  | 0 => some (s.sceneReport st)
  | 1 => (output? (byteAt body 2)).map fun k => (st.scene.outs.get k).coverage.bytes
  | 2 => (output? (byteAt body 2)).map fun k => (st.scene.outs.get k).tone.bytes
  | 3 =>
    if batchFits (u16At body 3) (byteAt body 5) Config.tableEntries then
      (table? (byteAt body 2)).map fun t =>
        ((slice (u16At body 3) (byteAt body 5) (st.scene.table t)).map b16).flatten
    else none
  | _ => none

/-- R135. -/
def actReadBankInfo (body : List Byte) (s : State) : State :=
  match bankSel? (byteAt body 0) with
  | none => s.refuse .badArgument
  | some pending =>
    match s.bankItem body (s.readBank pending) with
    | none => s.refuse .badArgument
    | some report => s.bumpFree.answer .ok report

/-- R173, R178: the length of READ_BANK_INFO by item; 2 for a selector that is none of the four. -/
def bankInfoLength (item : Nat) : Nat :=
  match item with
  | 1 => 3
  | 2 => 3
  | 3 => 6
  | _ => 2

def bankInfoFits (body : List Byte) : Bool :=
  decide (2 ≤ body.length) && decide (body.length = bankInfoLength (byteAt body 1))

def doReadBankInfo (body : List Byte) (s : State) : State :=
  request (bankInfoFits body) false (actReadBankInfo body) s

/-- READ_BANK_INFO (R135). -/
def execReadBankInfo (tag : Byte) (body : List Byte) (s : State) : Host.Outcome State Fault Refusal :=
  .next (s.submit ⟨0x3B, tag, body⟩ (doReadBankInfo body))

/-! ### COMMIT, DISARM, REVERT -/

/-- R137, R178: the body of an INVALID reply. -/
def CommitFault.bytes (f : CommitFault) : List Byte :=
  b8 f.item ++ optByte (f.output.map Fin.val) ++ b16 f.detail

/-- R137, R138. -/
def actCommit (s : State) : State :=
  match s.pendingBank.scene.commitFault with
  | some f => s.answer .invalid f.bytes
  | none =>
    let st := s.pendingBank.scene.derived
    ((s.setPendingBank st).setPendState .armed).answer .ok st.flaggedBytes

def doCommit (body : List Byte) (s : State) : State :=
  request (decide (body.length = 0)) false (admitEdit actCommit) s

/-- COMMIT (R136). -/
def execCommit (tag : Byte) (body : List Byte) (s : State) : Host.Outcome State Fault Refusal :=
  .next (s.submit ⟨0x38, tag, body⟩ (doCommit body))

/-- R139. -/
def actDisarm (s : State) : State :=
  match s.banks.pendState with
  | .armed => (s.setPendState .editable).answer .ok []
  | .editable => s.refuse .wrongState
  | .syncing => s.refuse .busy
  | .loading => s.refuse .busy

def doDisarm (body : List Byte) (s : State) : State :=
  request (decide (body.length = 0)) false actDisarm s

/-- DISARM (R139). -/
def execDisarm (tag : Byte) (body : List Byte) (s : State) : Host.Outcome State Fault Refusal :=
  .next (s.submit ⟨0x39, tag, body⟩ (doDisarm body))

/-- R140: a copy-back begins. -/
def actRevert (s : State) : State := (s.setPendState .syncing).answer .ok []

def doRevert (body : List Byte) (s : State) : State :=
  request (decide (body.length = 0)) false (admitEdit actRevert) s

/-- REVERT (R140). -/
def execRevert (tag : Byte) (body : List Byte) (s : State) : Host.Outcome State Fault Refusal :=
  .next (s.submit ⟨0x3A, tag, body⟩ (doRevert body))

end Sys2Proof.Machine
end

