-- ==== Sys2Proof/Machine/General.lean ====
section
/-! DEFINITION. The requests of Chapter 10: IDENTIFY, STATUS, FETCH and SET_MASK. -/

namespace Sys2Proof.Machine

/-- R188: the reply body of IDENTIFY. -/
def State.identity (s : State) : List Byte :=
  b16 Config.deviceCode ++ b8 Config.designStep ++ b8 s.pins.straps.toNat ++ b16 Config.maxBody

/-- R188. -/
def actIdentify (s : State) : State := s.answer .ok s.identity

def doIdentify (body : List Byte) (s : State) : State :=
  request (decide (body.length = 0)) true actIdentify s

/-- IDENTIFY (R188). -/
def execIdentify (tag : Byte) (body : List Byte) (s : State) : Host.Outcome State Fault Refusal :=
  .next (s.submit ⟨0x01, tag, body⟩ (doIdentify body))

/-- R182: the 25 bytes of the STATUS reply body. -/
def State.statusBody (s : State) : List Byte :=
  b8 s.mode.mode.code ++ b8 s.acq.state.code ++
  (s.chans.toList.map fun c => b8 c.state.code).flatten ++
  (s.chans.toList.map fun c => b16 c.presence).flatten ++
  b16 s.master.level ++ b16 s.master.target ++ b8 s.banks.pendState.code ++
  b16 s.banks.revision.toNat ++ b8 s.profiles.ctl.code ++ b8 s.ind.queue.length ++
  b16 s.ind.flags.word

/-- R187: STATUS reports, and clears the flags it reports as set. -/
def actStatus (s : State) : State := s.clearFlags.answer .ok s.statusBody

def doStatus (body : List Byte) (s : State) : State :=
  request (decide (body.length = 0)) true actStatus s

/-- STATUS (R187). -/
def execStatus (tag : Byte) (body : List Byte) (s : State) : Host.Outcome State Fault Refusal :=
  .next (s.submit ⟨0x03, tag, body⟩ (doStatus body))

/-- R185: FETCH takes up to eight of the oldest records; ATTN_N is released when none is left. -/
def actFetch (s : State) : State :=
  let taken := s.ind.queue.take Config.fetchRoom
  let left := s.ind.queue.drop Config.fetchRoom
  ({ s with ind := { s.ind with queue := left, attnN := left.isEmpty } } : State).answer .ok
    (b8 taken.length ++ (taken.map Indication.bytes).flatten)

def doFetch (body : List Byte) (s : State) : State :=
  request (decide (body.length = 0)) true actFetch s

/-- FETCH (R185). -/
def execFetch (tag : Byte) (body : List Byte) (s : State) : Host.Outcome State Fault Refusal :=
  .next (s.submit ⟨0x04, tag, body⟩ (doFetch body))

/-- R186: SET_MASK writes all 16 bits and returns the previous mask. -/
def actSetMask (body : List Byte) (s : State) : State :=
  ({ s with ind := { s.ind with mask := BitVec.ofNat 16 (u16At body 0) } } : State).answer .ok
    (b16 s.ind.mask.toNat)

def doSetMask (body : List Byte) (s : State) : State :=
  request (decide (body.length = 2)) false (actSetMask body) s

/-- SET_MASK (R186). -/
def execSetMask (tag : Byte) (body : List Byte) (s : State) : Host.Outcome State Fault Refusal :=
  .next (s.submit ⟨0x05, tag, body⟩ (doSetMask body))

end Sys2Proof.Machine
end

