-- ==== Sys2Proof/Machine/InputRequests.lean ====
section
/-! DEFINITION. The requests of Chapter 1: SET_INPUT_CONTROL and ACCEPT_INPUT. -/

namespace Sys2Proof.Machine

/-- R177: the previous values SET_INPUT_CONTROL returns. -/
def InputControls.previous (c : InputControls) (marks : Nat) : List Byte :=
  b8 marks ++ b8 (prior (mark marks 0) (boolCode c.breakpoint)) ++
  b8 (prior (mark marks 1) c.limit.code) ++ b8 (prior (mark marks 2) c.cadence.code) ++
  b16 (prior (mark marks 3) c.hold)

/-- R18. -/
def actSetInputControl (body : List Byte) (s : State) : State :=
  let marks := byteAt body 0
  let c := s.acq.controls
  match carried (mark marks 0) (onOff? (byteAt body 1)) c.breakpoint,
    carried (mark marks 1) (limit? (byteAt body 2)) c.limit,
    carried (mark marks 2) (cadence? (byteAt body 3)) c.cadence with
  | some breakpoint, some limit, some cadence =>
    let v := u16At body 4
    let hold := if mark marks 3 then clamp 0 Config.maxHold v else c.hold
    (s.applyInputControls ⟨breakpoint, limit, cadence, hold⟩).retarget.answer
      (okOr (mark marks 3 && clamps 0 Config.maxHold v)) (c.previous marks)
  | _, _, _ => s.refuse .badArgument

def doSetInputControl (body : List Byte) (s : State) : State :=
  request (decide (body.length = 6)) false (actSetInputControl body) s

/-- SET_INPUT_CONTROL (R18). -/
def execSetInputControl (tag : Byte) (body : List Byte) (s : State) :
    Host.Outcome State Fault Refusal :=
  .next (s.submit ⟨0x10, tag, body⟩ (doSetInputControl body))

/-- R19. -/
def actAcceptInput (s : State) : State :=
  if s.acq.state = .awaitAccept then (s.moveTo .locking []).retarget.answer .ok []
  else s.refuse .wrongState

def doAcceptInput (body : List Byte) (s : State) : State :=
  request (decide (body.length = 0)) false actAcceptInput s

/-- ACCEPT_INPUT (R19). -/
def execAcceptInput (tag : Byte) (body : List Byte) (s : State) : Host.Outcome State Fault Refusal :=
  .next (s.submit ⟨0x11, tag, body⟩ (doAcceptInput body))

end Sys2Proof.Machine
end

