-- ==== Sys2Proof/Machine/OutputRequests.lean ====
section
/-! DEFINITION. The channel requests and SET_OUTPUT_CONTROL (Chapter 6). -/

namespace Sys2Proof.Machine

/-- R111: a channel request: the output number is checked, then the channel's state decides; the reply
carries the channel's state and presence after the request. -/
def channelRequest (body : List Byte) (act : Output → State → State) (s : State) : State :=
  match output? (byteAt body 0) with
  | none => s.refuse .badArgument
  | some k =>
    let s := (act k s).retarget
    s.answer .ok (s.chan k).report

def doOutputEnable (body : List Byte) (s : State) : State :=
  request (decide (body.length = 1)) false (channelRequest body State.enableChan) s

/-- OUTPUT_ENABLE (R112). -/
def execOutputEnable (tag : Byte) (body : List Byte) (s : State) : Host.Outcome State Fault Refusal :=
  .next (s.submit ⟨0x20, tag, body⟩ (doOutputEnable body))

def doOutputDisable (body : List Byte) (s : State) : State :=
  request (decide (body.length = 1)) false (channelRequest body State.disableChan) s

/-- OUTPUT_DISABLE (R113). -/
def execOutputDisable (tag : Byte) (body : List Byte) (s : State) : Host.Outcome State Fault Refusal :=
  .next (s.submit ⟨0x21, tag, body⟩ (doOutputDisable body))

/-- R114: only a parked channel rejoins. -/
def actOutputRejoin (body : List Byte) (s : State) : State :=
  match output? (byteAt body 0) with
  | none => s.refuse .badArgument
  | some k =>
    if (s.chan k).state = .parked then
      let s := (s.changeChan k { s.chan k with state := .active } .host).retarget
      s.answer .ok (s.chan k).report
    else s.refuse .wrongState

def doOutputRejoin (body : List Byte) (s : State) : State :=
  request (decide (body.length = 1)) false (actOutputRejoin body) s

/-- OUTPUT_REJOIN (R114). -/
def execOutputRejoin (tag : Byte) (body : List Byte) (s : State) : Host.Outcome State Fault Refusal :=
  .next (s.submit ⟨0x22, tag, body⟩ (doOutputRejoin body))

/-- R177: the previous values SET_OUTPUT_CONTROL returns, the output number and the marks echoed. -/
def OutputControls.previous (c : OutputControls) (k marks : Nat) : List Byte :=
  b8 k ++ b16 marks ++ b8 (prior (mark marks 0) c.lossConfirm) ++ b16 (prior (mark marks 1) c.settle) ++
  b16 (prior (mark marks 2) c.rise) ++ b16 (prior (mark marks 3) c.fall) ++
  b8 (prior (mark marks 4) c.policy.code) ++ b8 (prior (mark marks 5) (boolCode c.autoRejoin)) ++
  b8 (prior (mark marks 6) c.path.code) ++ b8 (prior (mark marks 7) c.kind.code) ++
  b16 (prior (mark marks 8) c.level)

/-- R122: a numeric control, clamped where carried. -/
def clampCarried (marked : Bool) (lo hi v kept : Nat) : Nat := if marked then clamp lo hi v else kept

/-- R122: whether a carried value was clamped. -/
def outputClamped (body : List Byte) : Bool :=
  let marks := u16At body 1
  (mark marks 0 && clamps 1 15 (byteAt body 3)) || (mark marks 1 && clamps 1 255 (u16At body 4)) ||
  (mark marks 2 && clamps 1 Config.one (u16At body 6)) ||
  (mark marks 3 && clamps 1 Config.one (u16At body 8)) ||
  (mark marks 8 && clamps 0 Config.maxCode (u16At body 14))

/-- R122: the controls a body gives over the present ones; none when a carried value is out of its
list. -/
def OutputControls.withBody (c : OutputControls) (body : List Byte) : Option OutputControls :=
  let marks := u16At body 1
  match carried (mark marks 4) (policy? (byteAt body 10)) c.policy,
    carried (mark marks 5) (onOff? (byteAt body 11)) c.autoRejoin,
    carried (mark marks 6) (path? (byteAt body 12)) c.path,
    carried (mark marks 7) (kind? (byteAt body 13)) c.kind with
  | some policy, some autoRejoin, some path, some kind =>
    some {
      lossConfirm := clampCarried (mark marks 0) 1 15 (byteAt body 3) c.lossConfirm
      settle := clampCarried (mark marks 1) 1 255 (u16At body 4) c.settle
      rise := clampCarried (mark marks 2) 1 Config.one (u16At body 6) c.rise
      fall := clampCarried (mark marks 3) 1 Config.one (u16At body 8) c.fall
      policy := policy, autoRejoin := autoRejoin, path := path, kind := kind
      level := clampCarried (mark marks 8) 0 Config.maxCode (u16At body 14) c.level }
  | _, _, _, _ => none

/-- R122; a change of policy moves the master target at the request (R39, R116). -/
def actSetOutputControl (body : List Byte) (s : State) : State :=
  match output? (byteAt body 0) with
  | none => s.refuse .badArgument
  | some k =>
    match (s.chan k).controls.withBody body with
    | none => s.refuse .badArgument
    | some c =>
      (s.setChan k { s.chan k with controls := c }).retarget.answer (okOr (outputClamped body))
        ((s.chan k).controls.previous k.val (u16At body 1))

def doSetOutputControl (body : List Byte) (s : State) : State :=
  request (decide (body.length = 16)) false (actSetOutputControl body) s

/-- SET_OUTPUT_CONTROL (R122). -/
def execSetOutputControl (tag : Byte) (body : List Byte) (s : State) :
    Host.Outcome State Fault Refusal :=
  .next (s.submit ⟨0x23, tag, body⟩ (doSetOutputControl body))

end Sys2Proof.Machine
end

