-- ==== Sys2Proof/Machine/Power.lean ====
section
/-! DEFINITION. Resets, standby and wake (Chapter 8, R180). -/

namespace Sys2Proof.Machine

/-- RESET_N (R164): every block takes its reset values and the straps are read. -/
def execResetN (straps : BitVec 2) (s : State) : Host.Outcome State Fault Refusal :=
  .next (s.restart straps)

/-- WAKE_N (R166): a falling edge acts as a taken WAKE. -/
def execWakeN (env : Env) (s : State) : Host.Outcome State Fault Refusal := .next (s.wakeUp env)

/-- R180: RESET is answered; the reset begins when the reply's last byte leaves TXD. -/
def actReset (s : State) : State := s.answer .ok []

def doReset (body : List Byte) (s : State) : State :=
  request (decide (body.length = 0)) false actReset s

/-- RESET (R180). -/
def execReset (tag : Byte) (body : List Byte) (s : State) : Host.Outcome State Fault Refusal :=
  .next (s.submit ⟨0x02, tag, body⟩ (doReset body))

/-- R166: entry to DIMMING with the mode left remembered. -/
def State.startDimming (home : HomeMode) (s : State) : State :=
  (({ s with mode := { s.mode with remembered := home } } : State).changeMode .dimming).retarget

/-- R166: STANDBY by mode. -/
def State.goDark (s : State) : State :=
  match s.mode.mode with
  | .setup => s.startDimming .setup
  | .run => s.startDimming .run
  | _ => s

/-- R178: the part mode after the request. -/
def State.answerMode (s : State) : State := s.answer .ok (b8 s.mode.mode.code)

def doStandby (body : List Byte) (s : State) : State :=
  request (decide (body.length = 0)) false (fun s => s.goDark.answerMode) s

/-- STANDBY (R166). -/
def execStandby (tag : Byte) (body : List Byte) (s : State) : Host.Outcome State Fault Refusal :=
  .next (s.submit ⟨0x08, tag, body⟩ (doStandby body))

def doWake (body : List Byte) (env : Env) (s : State) : State :=
  request (decide (body.length = 0)) false (fun s => (s.wakeUp env).answerMode) s

/-- WAKE (R166, R168). -/
def execWake (tag : Byte) (body : List Byte) (env : Env) (s : State) :
    Host.Outcome State Fault Refusal :=
  .next (s.submit ⟨0x09, tag, body⟩ (doWake body env))

end Sys2Proof.Machine
end

