-- ==== Sys2Proof/Machine/ProbeRequests.lean ====
section
/-! DEFINITION. The probe requests (Chapter 5): PROBE and PROBE_READ. -/

namespace Sys2Proof.Machine

/-- R96: whether a pixel is inside the active raster. -/
def State.insideRaster (u v : Nat) (s : State) : Bool :=
  decide (u < s.active.scene.rasterW) && decide (v < s.active.scene.rasterH)

/-- R96 steps 2 to 6. -/
def actProbe (body : List Byte) (s : State) : State :=
  if s.mode.mode = .standby then s.refuse .wrongState
  else
    match output? (byteAt body 0) with
    | none => s.refuse .badArgument
    | some k =>
      if s.insideRaster (u16At body 1) (u16At body 3) then
        match s.probe with
        | .waiting _ _ _ => s.refuse .busy
        | .idle => ({ s with probe := .waiting k (u16At body 1) (u16At body 3) } : State).answer .ok []
        | .ready _ => ({ s with probe := .waiting k (u16At body 1) (u16At body 3) } : State).answer .ok []
      else s.refuse .badArgument

def doProbe (body : List Byte) (s : State) : State :=
  request (decide (body.length = 5)) false (actProbe body) s

/-- PROBE (R96). -/
def execProbe (tag : Byte) (body : List Byte) (s : State) : Host.Outcome State Fault Refusal :=
  .next (s.submit ⟨0x40, tag, body⟩ (doProbe body))

/-- R101. -/
def actProbeRead (s : State) : State :=
  match s.probe with
  | .ready r => s.answer .ok r.bytes
  | .waiting _ _ _ => s.refuse .busy
  | .idle => s.refuse .wrongState

def doProbeRead (body : List Byte) (s : State) : State :=
  request (decide (body.length = 0)) false actProbeRead s

/-- PROBE_READ (R101). -/
def execProbeRead (tag : Byte) (body : List Byte) (s : State) : Host.Outcome State Fault Refusal :=
  .next (s.submit ⟨0x41, tag, body⟩ (doProbeRead body))

end Sys2Proof.Machine
end

