-- ==== Sys2Proof/Machine/ProfileRequests.lean ====
section
/-! DEFINITION. The profile requests (Chapter 8). -/

namespace Sys2Proof.Machine

/-- R155: the admission by the controller's state. -/
def admitProfile (act : State → State) (s : State) : State :=
  match s.profiles.ctl with
  | .scanning => s.refuse .starting
  | .idle => act s
  | .loading _ _ => s.refuse .busy
  | .storing _ _ _ => s.refuse .busy
  | .erasing _ _ _ => s.refuse .busy
  | .writingDirectory _ => s.refuse .busy

/-- R155: a taken profile request: the controller begins the operation, status OK, empty body. -/
def State.startOperation (f : ProfileStore → ProfileStore) (s : State) : State :=
  (s.onProfiles f).answer .ok []

/-- R157 step 4, R151: a load is taken only in EDITABLE. -/
def loadInto (n : ProfileNo) (arm : Bool) (s : State) : State :=
  match s.banks.pendState with
  | .editable => (s.setPendState .loading).startOperation (ProfileStore.setCtl (.loading n arm))
  | .armed => s.refuse .armed
  | .syncing => s.refuse .busy
  | .loading => s.refuse .busy

/-- R157. -/
def actProfileLoad (body : List Byte) (s : State) : State :=
  match profile? (byteAt body 0), onOff? (byteAt body 1) with
  | some n, some arm =>
    match (s.profiles.entry n).sound? with
    | none => s.refuse .noProfile
    | some false => s.refuse .unsound
    | some true => loadInto n arm s
  | _, _ => s.refuse .badArgument

def doProfileLoad (body : List Byte) (s : State) : State :=
  request (decide (body.length = 2)) false (admitProfile (actProfileLoad body)) s

/-- PROFILE_LOAD (R157). -/
def execProfileLoad (tag : Byte) (body : List Byte) (s : State) : Host.Outcome State Fault Refusal :=
  .next (s.submit ⟨0x50, tag, body⟩ (doProfileLoad body))

/-- R158: a label of at most 16 printable characters. -/
def labelGood (label : List Byte) : Bool :=
  decide (label.length ≤ 16) && label.all fun c => decide (0x20 ≤ c.toNat) && decide (c.toNat ≤ 0x7E)

/-- R158 step 2: SETUP, or DIMMING or STANDBY entered from SETUP. -/
def ModeState.inSetup (m : ModeState) : Bool :=
  match m.mode with
  | .setup => true
  | .dimming => decide (m.remembered = .setup)
  | .standby => decide (m.remembered = .setup)
  | .startup => false
  | .run => false

/-- R158. -/
def actProfileStore (body : List Byte) (s : State) : State :=
  let revision := BitVec.ofNat 16 (u16At body 1)
  let label := body.drop 4
  match profile? (byteAt body 0) with
  | none => s.refuse .badArgument
  | some n =>
    if !labelGood label then s.refuse .badArgument
    else if s.mode.inSetup then s.refuse .wrongState
    else if revision ≠ s.banks.revision then s.refuse .stale
    else s.startOperation (ProfileStore.beginStore n (s.captureProfile revision label))

/-- R173, R178: the length is computed from the label length the body carries. -/
def profileStoreFits (body : List Byte) : Bool :=
  decide (4 ≤ body.length) && decide (body.length = 4 + byteAt body 3)

def doProfileStore (body : List Byte) (s : State) : State :=
  request (profileStoreFits body) false (admitProfile (actProfileStore body)) s

/-- PROFILE_STORE (R158). -/
def execProfileStore (tag : Byte) (body : List Byte) (s : State) : Host.Outcome State Fault Refusal :=
  .next (s.submit ⟨0x51, tag, body⟩ (doProfileStore body))

/-- R160. -/
def actProfileErase (body : List Byte) (s : State) : State :=
  match profile? (byteAt body 0) with
  | none => s.refuse .badArgument
  | some n =>
    if (s.profiles.entry n).held.isNone then s.refuse .noProfile
    else s.startOperation (ProfileStore.beginErase n)

def doProfileErase (body : List Byte) (s : State) : State :=
  request (decide (body.length = 1)) false (admitProfile (actProfileErase body)) s

/-- PROFILE_ERASE (R160). -/
def execProfileErase (tag : Byte) (body : List Byte) (s : State) : Host.Outcome State Fault Refusal :=
  .next (s.submit ⟨0x52, tag, body⟩ (doProfileErase body))

/-- R161, R178: a boot choice: a profile number, or FFh for NONE. -/
def bootChoice? (v : Nat) : Option (Option ProfileNo) :=
  if v = 0xFF then some none else (profile? v).map some

/-- R161. -/
def actProfileSetBoot (body : List Byte) (s : State) : State :=
  match bootChoice? (byteAt body 0) with
  | none => s.refuse .badArgument
  | some none => s.startOperation (ProfileStore.beginBoot none)
  | some (some n) =>
    match (s.profiles.entry n).sound? with
    | none => s.refuse .noProfile
    | some false => s.refuse .unsound
    | some true => s.startOperation (ProfileStore.beginBoot (some n))

def doProfileSetBoot (body : List Byte) (s : State) : State :=
  request (decide (body.length = 1)) false (admitProfile (actProfileSetBoot body)) s

/-- PROFILE_SET_BOOT (R161). -/
def execProfileSetBoot (tag : Byte) (body : List Byte) (s : State) :
    Host.Outcome State Fault Refusal :=
  .next (s.submit ⟨0x53, tag, body⟩ (doProfileSetBoot body))

/-! ### PROFILE_LIST -/

/-- R176: the code of a profile's state. -/
def Entry.code (e : Entry) : Nat :=
  match e.sound? with
  | none => 0
  | some true => 1
  | some false => 2

/-- R178: a label padded with 00h to 16 bytes. -/
def labelField (label : List Byte) : List Byte := (label ++ zeros 16).take 16

/-- R156, R178: the 25 bytes of a profile. The revision and canvas size of an EMPTY one are free
values (log 14). -/
def Entry.bytes (e : Entry) (absent : Nat → Byte) : List Byte :=
  match e.held with
  | some (_, h) =>
    b8 e.code ++ b16 h.revision.toNat ++ b8 e.writeCount ++ b16 h.canvasW ++ b16 h.canvasH ++
    b8 h.label.length ++ labelField h.label
  | none =>
    b8 e.code ++ [absent 0, absent 1] ++ b8 e.writeCount ++
    [absent 2, absent 3, absent 4, absent 5] ++ b8 0 ++ labelField []

/-- R156: the profile in work, if any. DESIGN CHOICE (log 39): R156 does not say which profile is in work
while SCANNING, and the model reports none; during a boot choice write it reports the profile named. -/
def Ctl.profileInWork : Ctl → Option ProfileNo
  | .scanning => none
  | .idle => none
  | .loading n _ => some n
  | .storing n _ _ => some n
  | .erasing n _ _ => some n
  | .writingDirectory boot => boot

/-- R156: the areas examined: the count so far while SCANNING, else 8. -/
def ProfileStore.examinedReport (p : ProfileStore) : Nat :=
  if p.ctl = .scanning then p.examined else 8

/-- R156: the entry as reported; `n` is its number. -/
def State.entryReport (n : ProfileNo) (s : State) : List Byte :=
  (s.profiles.entry n).bytes fun i => Config.absentByte s.free (8 * n.val + i)

def profileNos : List ProfileNo := [0, 1, 2, 3, 4, 5, 6, 7]

/-- R156, R178: the 204 bytes of the reply body. -/
def State.profileReport (s : State) : List Byte :=
  b8 s.profiles.ctl.code ++ optByte (s.profiles.ctl.profileInWork.map Fin.val) ++
  optByte (s.profiles.boot.map Fin.val) ++ b8 s.profiles.examinedReport ++
  (profileNos.map fun n => s.entryReport n).flatten

/-- R156. -/
def actProfileList (s : State) : State := s.bumpFree.answer .ok s.profileReport

def doProfileList (body : List Byte) (s : State) : State :=
  request (decide (body.length = 0)) true actProfileList s

/-- PROFILE_LIST (R156). -/
def execProfileList (tag : Byte) (body : List Byte) (s : State) : Host.Outcome State Fault Refusal :=
  .next (s.submit ⟨0x54, tag, body⟩ (doProfileList body))

end Sys2Proof.Machine
end

