-- ==== Sys2Proof/Machine/Link.lean ====
section
/-! DEFINITION. The Control Link (Chapter 9): the receiver, the holding buffer, the end of a reply, and
the passing of a request to its owner by its code. -/

namespace Sys2Proof.Machine

/-- R173, R178: the request of a frame is passed to its owner by its code; a code that is not in the
catalogue is refused. `env` serves a WAKE, whose wake start samples the link (R168). -/
def handleFrame (f : Frame) (env : Env) (s : State) : State :=
  match f.code.toNat with
  | 0x01 => doIdentify f.body s
  | 0x02 => doReset f.body s
  | 0x03 => doStatus f.body s
  | 0x04 => doFetch f.body s
  | 0x05 => doSetMask f.body s
  | 0x08 => doStandby f.body s
  | 0x09 => doWake f.body env s
  | 0x10 => doSetInputControl f.body s
  | 0x11 => doAcceptInput f.body s
  | 0x18 => doSetFreePeriod f.body s
  | 0x19 => doSetMaster f.body s
  | 0x1A => doReadCounters f.body s
  | 0x1B => doSetSlipThreshold f.body s
  | 0x20 => doOutputEnable f.body s
  | 0x21 => doOutputDisable f.body s
  | 0x22 => doOutputRejoin f.body s
  | 0x23 => doSetOutputControl f.body s
  | 0x30 => doWriteScene f.body s
  | 0x31 => doWriteLayout f.body s
  | 0x32 => doWriteMesh f.body s
  | 0x33 => doReadMesh f.body s
  | 0x34 => doWriteCoverage f.body s
  | 0x35 => doWriteTone f.body s
  | 0x36 => doWriteTable f.body s
  | 0x38 => doCommit f.body s
  | 0x39 => doDisarm f.body s
  | 0x3A => doRevert f.body s
  | 0x3B => doReadBankInfo f.body s
  | 0x40 => doProbe f.body s
  | 0x41 => doProbeRead f.body s
  | 0x50 => doProfileLoad f.body s
  | 0x51 => doProfileStore f.body s
  | 0x52 => doProfileErase f.body s
  | 0x53 => doProfileSetBoot f.body s
  | 0x54 => doProfileList f.body s
  | _ => s.refuse .unknownRequest

/-- R172: a request frame completes. -/
def completeFrame (f : Frame) (env : Env) (s : State) : State := s.submit f (handleFrame f env)

/-- UNKNOWN_REQUEST (R173): the frame's code decides, so a catalogued code is passed to its owner. -/
def execUnknownRequest (code tag : Byte) (body : List Byte) (env : Env) (s : State) :
    Host.Outcome State Fault Refusal :=
  .next (completeFrame ⟨code, tag, body⟩ env s)

/-- REQUEST_FRAME_DISCARD (R172): a request frame completes; the link's state decides what becomes of it
(log 24). -/
def execRequestFrameDiscard (frame : Frame) (env : Env) (s : State) :
    Host.Outcome State Fault Refusal :=
  .next (completeFrame frame env s)

/-- REQUEST_WAITS_IN_HOLDING_BUFFER (R172): a request frame completes; the link's state decides what
becomes of it (log 24). -/
def execRequestWaitsInHoldingBuffer (frame : Frame) (env : Env) (s : State) :
    Host.Outcome State Fault Refusal :=
  .next (completeFrame frame env s)

/-! ### The receiver (R170, R171) -/

def State.setRx (r : Receiver) (s : State) : State := { s with link := { s.link with rx := r } }

/-- R171: a partial frame is discarded. -/
def State.discardPartial (s : State) : State := (s.setRx .hunt).flagLinkDiscard

/-- R170: the second length byte of a header. -/
def State.headerDone (code tag low high : Byte) (env : Env) (s : State) : State :=
  let length := low.toNat + 256 * high.toNat
  if length = 0 then completeFrame ⟨code, tag, []⟩ env s
  else if length ≤ Config.maxBody then s.setRx (.body code tag length [])
  else s.discardPartial

/-- R170: the receiver takes a byte. -/
def State.receive (byte : Byte) (env : Env) (s : State) : State :=
  match s.link.rx with
  | .hunt => if byte = 0xC3 then s.setRx (.header []) else s
  | .header [code, tag, low] => s.headerDone code tag low byte env
  | .header bytes => s.setRx (.header (bytes ++ [byte]))
  | .body code tag length bytes =>
    if length ≤ bytes.length + 1 then completeFrame ⟨code, tag, bytes ++ [byte]⟩ env s
    else s.setRx (.body code tag length (bytes ++ [byte]))

/-- RXD_BYTE_RECEIVED (R170): a byte with a good stop bit. -/
def execRxdByteReceived (byte : Byte) (env : Env) (s : State) : Host.Outcome State Fault Refusal :=
  .next (s.receive byte env)

/-- INTER_BYTE_GAP_EXPIRY (R171): there is no gap limit in HUNT. -/
def execInterByteGapExpiry (s : State) : Host.Outcome State Fault Refusal :=
  .next (match s.link.rx with
    | .hunt => s
    | .header _ => s.discardPartial
    | .body _ _ _ _ => s.discardPartial)

/-- R171: what an error does: a bad stop bit in HEADER or BODY, or an oversize length at the second
length byte, discards the partial frame; in HUNT a bad stop bit sets nothing. -/
def State.receiveError (e : ReceiveError) (s : State) : State :=
  match s.link.rx, e with
  | .hunt, _ => s
  | .header _, .badStopBit => s.discardPartial
  | .header bytes, .oversize => if bytes.length = 3 then s.discardPartial else s
  | .body _ _ _ _, .badStopBit => s.discardPartial
  | .body _ _ _ _, .oversize => s

/-- FRAME_RECEIVE_ERROR (R171). -/
def execFrameReceiveError (error : ReceiveError) (s : State) : Host.Outcome State Fault Refusal :=
  .next (s.receiveError error)

/-! ### The end of a reply (R172, R180) -/

/-- R180: the reply that a reset follows. -/
def Reply.startsReset (r : Reply) : Bool := decide (r.code = 0x02) && decide (r.status = .ok)

/-- R172: handling ends and a waiting request is handled. -/
def State.nextRequest (env : Env) (s : State) : State :=
  match s.link.holding with
  | none => { s with link := { s.link with handling := none, sending := none } }
  | some f =>
    handleFrame f env { s with link := { s.link with holding := none, handling := some f, sending := none } }

/-- REPLY_TRANSMIT_END (R172, R180): with no reply being sent it cannot arrive (log 4). -/
def execReplyTransmitEnd (env : Env) (s : State) : Host.Outcome State Fault Refusal :=
  .next (match s.link.sending with
    | none => s
    | some r => if r.startsReset then s.restart env.straps else s.nextRequest env)

end Sys2Proof.Machine
end

