-- ==== Sys2Proof/Machine/Dispatch.lean ====
section
/-! DEFINITION. The meaning of each command: one arm per constructor of `Instr`. -/

namespace Sys2Proof.Machine

def exec (i : Instr) (s : State) : Host.Outcome State Fault Refusal :=
  match i with
  | .resetN straps => Sys2Proof.Machine.execResetN straps s
  | .wakeN env => Sys2Proof.Machine.execWakeN env s
  | .inputValidFall => Sys2Proof.Machine.execInputValidFall s
  | .inputFrameStart valid time env => Sys2Proof.Machine.execInputFrameStart valid time env s
  | .inputFrameEnd valid frame => Sys2Proof.Machine.execInputFrameEnd valid frame s
  | .inputLossGuardExpiry => Sys2Proof.Machine.execInputLossGuardExpiry s
  | .acquisitionTimerExpiry => Sys2Proof.Machine.execAcquisitionTimerExpiry s
  | .holdTimerExpiry => Sys2Proof.Machine.execHoldTimerExpiry s
  | .presentationFrameStart env => Sys2Proof.Machine.execPresentationFrameStart env s
  | .copyBackCompletion => Sys2Proof.Machine.execCopyBackCompletion s
  | .loadCompletion good => Sys2Proof.Machine.execLoadCompletion good s
  | .storeCompletion verified written => Sys2Proof.Machine.execStoreCompletion verified written s
  | .eraseCompletion blank written => Sys2Proof.Machine.execEraseCompletion blank written s
  | .directoryCompletion written => Sys2Proof.Machine.execDirectoryCompletion written s
  | .scanCompletion => Sys2Proof.Machine.execScanCompletion s
  | .interByteGapExpiry => Sys2Proof.Machine.execInterByteGapExpiry s
  | .frameReceiveError error => Sys2Proof.Machine.execFrameReceiveError error s
  | .requestFrameDiscard frame env => Sys2Proof.Machine.execRequestFrameDiscard frame env s
  | .replyTransmitEnd env => Sys2Proof.Machine.execReplyTransmitEnd env s
  | .unknownRequest code tag body env => Sys2Proof.Machine.execUnknownRequest code tag body env s
  | .identify tag body => Sys2Proof.Machine.execIdentify tag body s
  | .reset tag body => Sys2Proof.Machine.execReset tag body s
  | .status tag body => Sys2Proof.Machine.execStatus tag body s
  | .fetch tag body => Sys2Proof.Machine.execFetch tag body s
  | .setMask tag body => Sys2Proof.Machine.execSetMask tag body s
  | .standby tag body => Sys2Proof.Machine.execStandby tag body s
  | .wake tag body env => Sys2Proof.Machine.execWake tag body env s
  | .setInputControl tag body => Sys2Proof.Machine.execSetInputControl tag body s
  | .acceptInput tag body => Sys2Proof.Machine.execAcceptInput tag body s
  | .setFreePeriod tag body => Sys2Proof.Machine.execSetFreePeriod tag body s
  | .setMaster tag body => Sys2Proof.Machine.execSetMaster tag body s
  | .readCounters tag body => Sys2Proof.Machine.execReadCounters tag body s
  | .setSlipThreshold tag body => Sys2Proof.Machine.execSetSlipThreshold tag body s
  | .outputEnable tag body => Sys2Proof.Machine.execOutputEnable tag body s
  | .outputDisable tag body => Sys2Proof.Machine.execOutputDisable tag body s
  | .outputRejoin tag body => Sys2Proof.Machine.execOutputRejoin tag body s
  | .setOutputControl tag body => Sys2Proof.Machine.execSetOutputControl tag body s
  | .writeScene tag body => Sys2Proof.Machine.execWriteScene tag body s
  | .writeLayout tag body => Sys2Proof.Machine.execWriteLayout tag body s
  | .writeMesh tag body => Sys2Proof.Machine.execWriteMesh tag body s
  | .readMesh tag body => Sys2Proof.Machine.execReadMesh tag body s
  | .writeCoverage tag body => Sys2Proof.Machine.execWriteCoverage tag body s
  | .writeTone tag body => Sys2Proof.Machine.execWriteTone tag body s
  | .writeTable tag body => Sys2Proof.Machine.execWriteTable tag body s
  | .commit tag body => Sys2Proof.Machine.execCommit tag body s
  | .disarm tag body => Sys2Proof.Machine.execDisarm tag body s
  | .revert tag body => Sys2Proof.Machine.execRevert tag body s
  | .readBankInfo tag body => Sys2Proof.Machine.execReadBankInfo tag body s
  | .probe tag body => Sys2Proof.Machine.execProbe tag body s
  | .probeRead tag body => Sys2Proof.Machine.execProbeRead tag body s
  | .profileLoad tag body => Sys2Proof.Machine.execProfileLoad tag body s
  | .profileStore tag body => Sys2Proof.Machine.execProfileStore tag body s
  | .profileErase tag body => Sys2Proof.Machine.execProfileErase tag body s
  | .profileSetBoot tag body => Sys2Proof.Machine.execProfileSetBoot tag body s
  | .profileList tag body => Sys2Proof.Machine.execProfileList tag body s
  | .rxdByteReceived byte env => Sys2Proof.Machine.execRxdByteReceived byte env s
  | .requestWaitsInHoldingBuffer frame env => Sys2Proof.Machine.execRequestWaitsInHoldingBuffer frame env s
  | .profileAreaExamined reading => Sys2Proof.Machine.execProfileAreaExamined reading s
  | .directoryWriteBegin => Sys2Proof.Machine.execDirectoryWriteBegin s

end Sys2Proof.Machine
end

