-- ==== Sys2Proof/Machine/Step.lean ====
section
/-! DEFINITION. One step of the part: the command at the front of the queue. -/

namespace Sys2Proof.Machine

/-- The front command is taken and run; with none waiting the part idles (log 5). -/
def step (s : State) : Host.Outcome State Fault Refusal :=
  match s.pending with
  | [] => .next s
  | c :: rest => exec c { s with pending := rest }

/-- The state with a command put in front of the queue. -/
def State.enqueueFront (c : Instr) (s : State) : State := { s with pending := c :: s.pending }

/-- The state with the command that a table word spells put in front of the queue; unchanged where it
spells none, which is every word, since the table gives no row any bits (log 36). -/
def State.withFetchWord (s : State) (nbits w : Nat) : State :=
  match decodeTableWord nbits w with
  | none => s
  | some c => s.enqueueFront c

end Sys2Proof.Machine
end

