-- ==== Sys2Proof/WellFormed.lean ====
section
/-! DEFINITION. Which terms of `Instr` stand for an event or a request that can arrive. `exec` is
total on every term; well-formedness is for statements and senders. -/

namespace Sys2Proof

/-- R170: a frame that completes has a body of at most 1024 bytes. -/
def bodyFits (body : List Byte) : Bool := decide (body.length ≤ Config.maxBody)

/-- Log 2: an arbitration order names no taker twice. -/
def Env.wellFormed (e : Env) : Bool := decide e.order.Nodup

/-- R178: the codes of the request catalogue. -/
def catalogueCodes : List Nat :=
  [0x01, 0x02, 0x03, 0x04, 0x05, 0x08, 0x09, 0x10, 0x11, 0x18, 0x19, 0x1A, 0x1B, 0x20, 0x21, 0x22,
   0x23, 0x30, 0x31, 0x32, 0x33, 0x34, 0x35, 0x36, 0x38, 0x39, 0x3A, 0x3B, 0x40, 0x41, 0x50, 0x51,
   0x52, 0x53, 0x54]

/-- R1: every listed pixel lies on its frame's active lines. -/
def InputFrame.wellFormed (f : InputFrame) : Bool :=
  f.pixels.all fun p => decide (p.1 < f.lines.getD p.2.1 0)

def Frame.wellFormed (f : Frame) : Bool := bodyFits f.body

/-- A command that can arrive. -/
def Instr.wellFormed : Instr → Bool
  | .resetN _ => true
  | .wakeN env => env.wellFormed
  | .inputValidFall => true
  | .inputFrameStart _ _ env => env.wellFormed
  | .inputFrameEnd _ frame => frame.wellFormed
  | .inputLossGuardExpiry => true
  | .acquisitionTimerExpiry => true
  | .holdTimerExpiry => true
  | .presentationFrameStart env => env.wellFormed
  | .copyBackCompletion => true
  | .loadCompletion _ => true
  | .storeCompletion _ _ => true
  | .eraseCompletion _ _ => true
  | .directoryCompletion _ => true
  | .scanCompletion => true
  | .interByteGapExpiry => true
  | .frameReceiveError _ => true
  | .requestFrameDiscard frame env => frame.wellFormed && env.wellFormed
  | .replyTransmitEnd env => env.wellFormed
  | .unknownRequest code _ body env =>
    bodyFits body && env.wellFormed && decide (code.toNat ∉ catalogueCodes)
  | .identify _ body => bodyFits body
  | .reset _ body => bodyFits body
  | .status _ body => bodyFits body
  | .fetch _ body => bodyFits body
  | .setMask _ body => bodyFits body
  | .standby _ body => bodyFits body
  | .wake _ body env => bodyFits body && env.wellFormed
  | .setInputControl _ body => bodyFits body
  | .acceptInput _ body => bodyFits body
  | .setFreePeriod _ body => bodyFits body
  | .setMaster _ body => bodyFits body
  | .readCounters _ body => bodyFits body
  | .setSlipThreshold _ body => bodyFits body
  | .outputEnable _ body => bodyFits body
  | .outputDisable _ body => bodyFits body
  | .outputRejoin _ body => bodyFits body
  | .setOutputControl _ body => bodyFits body
  | .writeScene _ body => bodyFits body
  | .writeLayout _ body => bodyFits body
  | .writeMesh _ body => bodyFits body
  | .readMesh _ body => bodyFits body
  | .writeCoverage _ body => bodyFits body
  | .writeTone _ body => bodyFits body
  | .writeTable _ body => bodyFits body
  | .commit _ body => bodyFits body
  | .disarm _ body => bodyFits body
  | .revert _ body => bodyFits body
  | .readBankInfo _ body => bodyFits body
  | .probe _ body => bodyFits body
  | .probeRead _ body => bodyFits body
  | .profileLoad _ body => bodyFits body
  | .profileStore _ body => bodyFits body
  | .profileErase _ body => bodyFits body
  | .profileSetBoot _ body => bodyFits body
  | .profileList _ body => bodyFits body
  | .rxdByteReceived _ env => env.wellFormed
  | .requestWaitsInHoldingBuffer frame env => frame.wellFormed && env.wellFormed
  | .profileAreaExamined _ => true
  | .directoryWriteBegin => true

end Sys2Proof
end

