-- ==== Sys2Proof/Safety.lean ====
section
/-! DEFINITION. What a sound state of the part is: the relations between fields of `State` that the
manual states, and the words in which statements speak of requests and replies. -/

namespace Sys2Proof

/-- The request frame that a request command brings (R170, R178); none for an event. -/
def Instr.frame? : Instr → Option Frame
  | .identify tag body => some ⟨0x01, tag, body⟩
  | .reset tag body => some ⟨0x02, tag, body⟩
  | .status tag body => some ⟨0x03, tag, body⟩
  | .fetch tag body => some ⟨0x04, tag, body⟩
  | .setMask tag body => some ⟨0x05, tag, body⟩
  | .standby tag body => some ⟨0x08, tag, body⟩
  | .wake tag body _ => some ⟨0x09, tag, body⟩
  | .setInputControl tag body => some ⟨0x10, tag, body⟩
  | .acceptInput tag body => some ⟨0x11, tag, body⟩
  | .setFreePeriod tag body => some ⟨0x18, tag, body⟩
  | .setMaster tag body => some ⟨0x19, tag, body⟩
  | .readCounters tag body => some ⟨0x1A, tag, body⟩
  | .setSlipThreshold tag body => some ⟨0x1B, tag, body⟩
  | .outputEnable tag body => some ⟨0x20, tag, body⟩
  | .outputDisable tag body => some ⟨0x21, tag, body⟩
  | .outputRejoin tag body => some ⟨0x22, tag, body⟩
  | .setOutputControl tag body => some ⟨0x23, tag, body⟩
  | .writeScene tag body => some ⟨0x30, tag, body⟩
  | .writeLayout tag body => some ⟨0x31, tag, body⟩
  | .writeMesh tag body => some ⟨0x32, tag, body⟩
  | .readMesh tag body => some ⟨0x33, tag, body⟩
  | .writeCoverage tag body => some ⟨0x34, tag, body⟩
  | .writeTone tag body => some ⟨0x35, tag, body⟩
  | .writeTable tag body => some ⟨0x36, tag, body⟩
  | .commit tag body => some ⟨0x38, tag, body⟩
  | .disarm tag body => some ⟨0x39, tag, body⟩
  | .revert tag body => some ⟨0x3A, tag, body⟩
  | .readBankInfo tag body => some ⟨0x3B, tag, body⟩
  | .probe tag body => some ⟨0x40, tag, body⟩
  | .probeRead tag body => some ⟨0x41, tag, body⟩
  | .profileLoad tag body => some ⟨0x50, tag, body⟩
  | .profileStore tag body => some ⟨0x51, tag, body⟩
  | .profileErase tag body => some ⟨0x52, tag, body⟩
  | .profileSetBoot tag body => some ⟨0x53, tag, body⟩
  | .profileList tag body => some ⟨0x54, tag, body⟩
  | .unknownRequest code tag body _ => some ⟨code, tag, body⟩
  | .requestFrameDiscard frame _ => some frame
  | .requestWaitsInHoldingBuffer frame _ => some frame
  | .resetN _ => none
  | .wakeN _ => none
  | .inputValidFall => none
  | .inputFrameStart _ _ _ => none
  | .inputFrameEnd _ _ => none
  | .inputLossGuardExpiry => none
  | .acquisitionTimerExpiry => none
  | .holdTimerExpiry => none
  | .presentationFrameStart _ => none
  | .copyBackCompletion => none
  | .loadCompletion _ => none
  | .storeCompletion _ _ => none
  | .eraseCompletion _ _ => none
  | .directoryCompletion _ => none
  | .scanCompletion => none
  | .interByteGapExpiry => none
  | .frameReceiveError _ => none
  | .replyTransmitEnd _ => none
  | .rxdByteReceived _ _ => none
  | .profileAreaExamined _ => none
  | .directoryWriteBegin => none

end Sys2Proof

namespace Sys2Proof.Machine

/-! ### Relations every step keeps -/

/-- R39: the master target is 4096 when the four conditions hold and 0 otherwise. -/
def State.TargetFollows (s : State) : Prop := s.master.target = s.targetOf

/-- R184, R185: at most 32 records wait, and ATTN_N is low exactly while one does. -/
def State.QueueSound (s : State) : Prop :=
  s.ind.queue.length ≤ Config.queueRoom ∧ s.ind.attnN = s.ind.queue.isEmpty

/-- R103, R106, R108: the ranges of a channel's record; no presence in DISABLED and ACQUIRING, and no
runs in DISABLED. -/
structure Channel.Sound (c : Channel) : Prop where
  presence : c.presence ≤ Config.one
  shown    : c.framePresence ≤ Config.one
  good     : c.goodRun ≤ 255
  bad      : c.badRun ≤ 15
  dark     : c.state = .disabled ∨ c.state = .acquiring → c.presence = 0
  idle     : c.state = .disabled → c.goodRun = 0 ∧ c.badRun = 0

def State.ChannelsSound (s : State) : Prop := ∀ k : Output, (s.chans.get k).Sound

/-- R126: a channel in standby: out of use or ACQUIRING, its port at code 0. -/
structure Channel.Dark (c : Channel) : Prop where
  state : c.state = .disabled ∨ c.state = .acquiring
  port  : c.port = .code0

/-- R167, R20, R29, R38, R41, R102, R126: what STANDBY means to each block. -/
structure State.Dark (s : State) : Prop where
  stopped : s.timer.running = false
  level   : s.master.level = 0
  input   : s.acq.state = .noSignal
  frame   : s.acq.frame = none
  acquire : s.acq.acqTimer = none
  hold    : s.acq.holdTimer = none
  buffers : s.frames.bufs = Three.all .empty
  chans   : ∀ k : Output, (s.chans.get k).Dark
  probe   : ∀ k u v, s.probe ≠ .waiting k u v

def State.StandbyDark (s : State) : Prop := s.mode.mode = .standby → s.Dark

def BufRec.Filling (r : BufRec) : Prop := ∃ n v, r = .filling n v

def BufRec.Showing (r : BufRec) : Prop := ∃ n v, r = .showing n v

/-- R21, R16, R23: at most one buffer is SHOWING; a buffer is FILLING exactly while the input frame in
progress is written into it, which happens only in the locked states. -/
structure State.BuffersSound (s : State) : Prop where
  oneShowing : ∀ b c : BufNo, (s.frames.bufs.get b).Showing → (s.frames.bufs.get c).Showing → b = c
  filling    : ∀ b : BufNo, (s.frames.bufs.get b).Filling ↔ ∃ w, s.writing? = some w ∧ w.buf = b
  locked     : s.writing?.isSome → s.acq.state.isLocked

/-- R21: every frame buffer's picture is in its canonical form. -/
def State.PicturesCanonical (s : State) : Prop := ∀ b : BufNo, (s.frames.mem.get b).wf = true

/-- The scene a profile area holds, if any, passes every commit check (R143). -/
def Area.Valid (a : Area) : Prop := ∀ p, a.profile? = some p → p.scene.valid = true

def Ctl.Valid : Ctl → Prop
  | .scanning => True
  | .idle => True
  | .loading _ _ => True
  | .storing _ image _ => image.scene.valid = true
  | .erasing _ erased _ => erased.Valid
  | .writingDirectory _ => True

/-- R138, R143: the active bank and an ARMED pending bank pass every commit check, and so does every
scene stored from an active bank. -/
structure State.ScenesValid (s : State) : Prop where
  active : s.active.scene.valid = true
  armed  : s.banks.pendState = .armed → s.pendingBank.scene.valid = true
  areas  : ∀ a ∈ s.profiles.flash.areas, a.Valid
  ctl    : s.profiles.ctl.Valid

/-- R45: a point record in range. -/
structure Point.InRange (p : Point) : Prop where
  xLow  : Config.minCoord ≤ p.sx
  xHigh : p.sx ≤ Config.maxCoord
  yLow  : Config.minCoord ≤ p.sy
  yHigh : p.sy ≤ Config.maxCoord
  gain  : p.m ≤ Config.maxMeshGain

/-- R64. -/
structure Coverage.InRange (c : Coverage) : Prop where
  left    : c.left ≤ Config.maxCanvasW
  right   : c.right ≤ Config.maxCanvasW
  top     : c.top ≤ Config.maxCanvasH
  bottom  : c.bottom ≤ Config.maxCanvasH
  fLeft   : c.fLeft ≤ Config.maxFeather
  fRight  : c.fRight ≤ Config.maxFeather
  fTop    : c.fTop ≤ Config.maxFeather
  fBottom : c.fBottom ≤ Config.maxFeather

def Rgb.AtMost (x : Rgb) (m : Nat) : Prop := x.r ≤ m ∧ x.g ≤ m ∧ x.b ≤ m

/-- R88. -/
def Tone.InRange (t : Tone) : Prop := t.gain.AtMost Config.maxToneGain ∧ t.floor.AtMost Config.maxFloor

/-- R43, R45, R64, R86, R88: what a bank holds for one output, in range and whole. -/
structure OutputScene.InRange (o : OutputScene) : Prop where
  pitch    : o.pitch = 16 ∨ o.pitch = 32 ∨ o.pitch = 64 ∨ o.pitch = 128
  records  : o.points.length = Config.meshRecords
  points   : ∀ p ∈ o.points, p.InRange
  coverage : o.coverage.InRange
  tone     : o.tone.InRange
  entries  : o.encode.length = Config.tableEntries
  encode   : ∀ e ∈ o.encode, e ≤ Config.maxCode

/-- R65, R84, R128: a scene in range and whole. -/
structure Scene.InRange (sc : Scene) : Prop where
  canvasW : Config.minWidth ≤ sc.canvasW ∧ sc.canvasW ≤ Config.maxCanvasW
  canvasH : Config.minHeight ≤ sc.canvasH ∧ sc.canvasH ≤ Config.maxCanvasH
  rasterW : Config.minWidth ≤ sc.rasterW ∧ sc.rasterW ≤ Config.maxRasterW
  rasterH : Config.minHeight ≤ sc.rasterH ∧ sc.rasterH ≤ Config.maxRasterH
  ceiling : 1 ≤ sc.ceiling ∧ sc.ceiling ≤ Config.maxCeiling
  entries : sc.decode.length = Config.tableEntries
  decode  : ∀ e ∈ sc.decode, e ≤ Config.maxLinear
  outs    : ∀ k : Output, (sc.outs.get k).InRange

def Area.InRange (a : Area) : Prop := ∀ p, a.profile? = some p → p.scene.InRange

def Ctl.InRange : Ctl → Prop
  | .scanning => True
  | .idle => True
  | .loading _ _ => True
  | .storing _ image _ => image.scene.InRange
  | .erasing _ erased _ => erased.InRange
  | .writingDirectory _ => True

/-- R45, R128: every field of both banks, and of every stored scene, lies within its range. -/
structure State.BanksInRange (s : State) : Prop where
  active  : s.active.scene.InRange
  pending : s.pendingBank.scene.InRange
  areas   : ∀ a ∈ s.profiles.flash.areas, a.InRange
  ctl     : s.profiles.ctl.InRange

/-- R103: the output controls in range. -/
structure OutputControls.InRange (c : OutputControls) : Prop where
  lossConfirm : 1 ≤ c.lossConfirm ∧ c.lossConfirm ≤ 15
  settle      : 1 ≤ c.settle ∧ c.settle ≤ 255
  rise        : 1 ≤ c.rise ∧ c.rise ≤ Config.one
  fall        : 1 ≤ c.fall ∧ c.fall ≤ Config.one
  level       : c.level ≤ Config.maxCode

/-- R18, R103: the controls a profile holds, in range. -/
def Profile.ControlsInRange (p : Profile) : Prop :=
  p.input.hold ≤ Config.maxHold ∧ ∀ k : Output, (p.outs.get k).controls.InRange

def Area.ControlsInRange (a : Area) : Prop := ∀ p, a.profile? = some p → p.ControlsInRange

def Ctl.ControlsInRange : Ctl → Prop
  | .scanning => True
  | .idle => True
  | .loading _ _ => True
  | .storing _ image _ => image.ControlsInRange
  | .erasing _ erased _ => erased.ControlsInRange
  | .writingDirectory _ => True

/-- R18, R30, R31, R37, R40, R42, R103: the registers of Chapter 2, the hold time and the output
controls, those that profiles hold included, lie within their ranges. -/
structure State.RegistersInRange (s : State) : Prop where
  slips     : s.frames.slips ≤ 65535
  threshold : 1 ≤ s.frames.threshold ∧ s.frames.threshold ≤ 65535
  free      : Config.minPeriod ≤ s.timer.free ∧ s.timer.free ≤ Config.maxPeriod
  level     : s.master.level ≤ Config.one
  step      : 1 ≤ s.master.step ∧ s.master.step ≤ Config.one
  target    : s.master.target = 0 ∨ s.master.target = Config.one
  hold      : s.acq.controls.hold ≤ Config.maxHold
  controls  : ∀ k : Output, (s.chans.get k).controls.InRange
  areas     : ∀ a ∈ s.profiles.flash.areas, a.ControlsInRange
  ctl       : s.profiles.ctl.ControlsInRange

/-- R153: a directory copy's write counts. -/
def DirCopy.CountsInRange (c : DirCopy) : Prop := ∀ d, c.directory? = some d → ∀ n ∈ d.counts, n ≤ 255

/-- R153, R154: eight entries and eight areas, every write count within 0..255, at most eight areas
examined. -/
structure State.DirectoryWhole (s : State) : Prop where
  entries  : s.profiles.entries.length = 8
  areas    : s.profiles.flash.areas.length = 8
  counts   : ∀ e ∈ s.profiles.entries, e.writeCount ≤ 255
  scanned  : ∀ n ∈ s.profiles.scanCounts, n ≤ 255
  copy0    : s.profiles.flash.copy0.CountsInRange
  copy1    : s.profiles.flash.copy1.CountsInRange
  examined : s.profiles.examined ≤ 8

/-- R170: how far a partial frame can be. -/
def Receiver.Sound : Receiver → Prop
  | .hunt => True
  | .header bytes => bytes.length ≤ 3
  | .body _ _ length bytes => bytes.length < length ∧ length ≤ Config.maxBody

/-- R170, R172, R174: a reply is being sent exactly while a request is being handled, and a request
waits only while one is. -/
structure State.LinkSound (s : State) : Prop where
  replying : s.link.sending.isSome = s.link.handling.isSome
  waiting  : s.link.holding.isSome → s.link.handling.isSome
  receiver : s.link.rx.Sound

/-! ### Words of statements -/

/-- R173, R178: the body lengths of the catalogue, as its list of lengths gives them. -/
def catalogueFits (code : Nat) (body : List Byte) : Bool :=
  match code with
  | 0x20 | 0x21 | 0x22 | 0x52 | 0x53 => body.length == 1
  | 0x31 | 0x1B | 0x05 | 0x50 => body.length == 2
  | 0x18 | 0x19 => body.length == 4
  | 0x33 | 0x40 => body.length == 5
  | 0x10 => body.length == 6
  | 0x30 => body.length == 10
  | 0x35 => body.length == 13
  | 0x23 => body.length == 16
  | 0x34 => body.length == 17
  | 0x32 => decide (4 ≤ body.length) && (body.length == 4 + 10 * byteAt body 3)
  | 0x36 => decide (4 ≤ body.length) && (body.length == 4 + 2 * byteAt body 3)
  | 0x51 => decide (4 ≤ body.length) && (body.length == 4 + byteAt body 3)
  | 0x3B =>
    decide (2 ≤ body.length) &&
      (body.length == if byteAt body 1 = 3 then 6 else if byteAt body 1 = 1 ∨ byteAt body 1 = 2 then 3 else 2)
  | _ => body.length == 0

/-- No request is being handled (R172), so a request frame that completes is handled at once. -/
def State.Free (s : State) : Prop := s.link.handling = none

/-- A request frame `f` completes while none is handled, and is answered at once (R172, R174); what
waits stays. -/
def State.replied (f : Frame) (st : Status) (body : List Byte) (s : State) : State :=
  { s with link := ⟨.hunt, s.link.holding, some f, some ⟨f.code, f.tag, st, body⟩⟩ }

/-- R172: the state in which a request frame that completes at once is being handled. -/
def State.handlingOf (f : Frame) (s : State) : State :=
  { s with link := { s.link with rx := .hunt, handling := some f } }

/-- What a request that the link passes on leads to: refused with STARTING in STARTUP (R164), else
`taken`. -/
def State.unlessStarting (s : State) (f : Frame) (taken : State) : State :=
  if s.mode.mode = .startup then s.replied f .starting [] else taken

/-- R132: an edit, a COMMIT or a REVERT by pending state: `taken` in EDITABLE only. -/
def State.whenEditable (s : State) (f : Frame) (taken : State) : State :=
  match s.banks.pendState with
  | .editable => taken
  | .armed => s.replied f .armed []
  | .syncing => s.replied f .busy []
  | .loading => s.replied f .busy []

/-- R155: a profile request by controller state: `taken` in IDLE only. -/
def State.whenIdle (s : State) (f : Frame) (taken : State) : State :=
  if s.profiles.ctl = .scanning then s.replied f .starting []
  else if s.profiles.ctl = .idle then taken
  else s.replied f .busy []

/-- The pending bank with another scene; its degrade flags stay (R63, R134). -/
def State.withPendingScene (sc : Scene) (s : State) : State :=
  { s with banks := s.banks.setPending ⟨sc, s.banks.pending.flags⟩ }

/-- A scene with what it holds for one output replaced. -/
def Scene.withOutput (k : Output) (o : OutputScene) (sc : Scene) : Scene :=
  { sc with outs := sc.outs.set k o }

/-- R184: the indications after a record of kind `b` is posted with a frame stamp. -/
def Indications.posted (b : IndBody) (stamp : BitVec 32) (i : Indications) : Indications :=
  if i.mask.toNat.testBit b.kindCode then i
  else if i.queue.length < 32 then { i with queue := i.queue ++ [⟨b, stamp⟩], attnN := false }
  else { i with flags := { i.flags with queueOverrun := true } }

end Sys2Proof.Machine
end

