-- ==== Sys2Proof/Certificates/Slice0/Obligations.lean ====
section
/-! DEFINITION. The statements for the provers, from the numbered rules of spec/. In a statement about a
request, `Free s` says that no request is being handled, so that the frame is handled at once; the first
statement about the link says what becomes of it otherwise, and two more what becomes of a frame whose
length or code does not fit. -/

open Sys2Proof Sys2Proof.Machine

/-! ### The machine -/

/-- A step runs the command at the front of the queue on the state with the rest of it. -/
def Obligations.StepRunsTheFrontCommand : Prop :=
  ∀ (c : Instr) (rest : List Instr) (s : State),
    step { s with pending := c :: rest } = exec c { s with pending := rest }

/-- Every command completes in every state, and leaves the queue alone: the part has no fault and every
refusal is a reply (R175). -/
def Obligations.EveryCommandCompletesAndKeepsTheQueue : Prop :=
  ∀ (c : Instr) (s : State), ∃ t, exec c s = .next t ∧ t.pending = s.pending

/-- R39: the value of the master target by its four conditions. -/
def Obligations.MasterTargetHasFourConditions : Prop :=
  ∀ s : State,
    (s.targetOf = 4096 ∨ s.targetOf = 0) ∧
    (s.targetOf = 4096 ↔
      (s.acq.state = .locking ∨ s.acq.state = .locked ∨ s.acq.holdTimer ≠ none) ∧
      s.master.mute = false ∧
      (s.mode.mode = .run ∨ s.mode.mode = .setup) ∧
      ∀ k : Output, (s.chans.get k).controls.policy = .allBlack →
        (s.chans.get k).state ≠ .lost ∧ (s.chans.get k).state ≠ .parked)

/-! ### Relations that every step keeps -/

/-- R39: the master target follows its four conditions at every event. -/
def Obligations.EveryStepKeepsTheTargetFollowing : Prop :=
  ∀ s t : State, s.TargetFollows → step s = .next t → t.TargetFollows

/-- R184: at most 32 records wait, and ATTN_N is low exactly while one waits. -/
def Obligations.EveryStepKeepsTheIndicationQueueSound : Prop :=
  ∀ s t : State, s.QueueSound → step s = .next t → t.QueueSound

/-- R103, R106, R108: presences and runs stay in range, and a channel in DISABLED or ACQUIRING has
presence 0. -/
def Obligations.EveryStepKeepsTheChannelsSound : Prop :=
  ∀ s t : State, s.ChannelsSound → step s = .next t → t.ChannelsSound

/-- R167, R20, R29, R38, R41, R102, R126: in STANDBY the timer is stopped, the level 0, the input
NO_SIGNAL, the buffers EMPTY, no channel in use and no probe waiting. -/
def Obligations.EveryStepKeepsStandbyDark : Prop :=
  ∀ s t : State, s.StandbyDark → step s = .next t → t.StandbyDark

/-- R21, R16: at most one buffer is SHOWING, and a buffer is FILLING exactly while the frame in progress
is written into it; every picture of frame memory keeps its canonical form. -/
def Obligations.EveryStepKeepsTheBuffersSound : Prop :=
  ∀ s t : State, s.BuffersSound → s.PicturesCanonical → step s = .next t →
    t.BuffersSound ∧ t.PicturesCanonical

/-- R138, R143: the contents of the active bank, and those of an ARMED pending bank, satisfy every
commit check. -/
def Obligations.EveryStepKeepsTheScenesValid : Prop :=
  ∀ s t : State, s.ScenesValid → step s = .next t → t.ScenesValid

/-- R45, R128: every field of both banks stays in its range. -/
def Obligations.EveryStepKeepsTheBanksInRange : Prop :=
  ∀ s t : State, s.BanksInRange → step s = .next t → t.BanksInRange

/-- R18, R30, R31, R37, R40, R42, R103: the registers of Chapter 2, the hold time and the output controls,
stored ones included, stay in their ranges. -/
def Obligations.EveryStepKeepsTheRegistersInRange : Prop :=
  ∀ s t : State, s.RegistersInRange → step s = .next t → t.RegistersInRange

/-- R153: the directory keeps eight entries and eight areas, and every write count lies within 0..255. -/
def Obligations.EveryStepKeepsTheDirectoryWhole : Prop :=
  ∀ s t : State, s.DirectoryWhole → step s = .next t → t.DirectoryWhole

/-- R170, R172, R174: a reply is being sent exactly while a request is being handled, a request waits
only behind another, and a partial frame is shorter than its length. -/
def Obligations.EveryStepKeepsTheLinkSound : Prop :=
  ∀ s t : State, s.LinkSound → step s = .next t → t.LinkSound

/-- The state after reset meets every relation above. -/
def Obligations.ResetMeetsEveryRelation : Prop :=
  State.reset.TargetFollows ∧ State.reset.QueueSound ∧ State.reset.ChannelsSound ∧
  State.reset.StandbyDark ∧ State.reset.BuffersSound ∧ State.reset.PicturesCanonical ∧
  State.reset.ScenesValid ∧ State.reset.BanksInRange ∧ State.reset.RegistersInRange ∧
  State.reset.DirectoryWhole ∧ State.reset.LinkSound

/-! ### Reset -/

/-- R20, R21, R30, R31, R34, R42, R95, R103, R129, R156, R164, R172, R188: the values the manual gives
after reset. The values of `pins`, `frames.mem`, `profiles.flash`, `timer.lastStart` and `free` are the
model's (log 25, 9, 10, 6, 38) and are not stated. -/
def Obligations.ResetValuesAreTheManuals : Prop :=
  State.reset.acq.state = .noSignal ∧ State.reset.acq.window = [] ∧ State.reset.acq.measured = none ∧
  State.reset.acq.target = none ∧ State.reset.acq.good = 0 ∧ State.reset.acq.bad = 0 ∧
  State.reset.acq.waitCadence = none ∧ State.reset.acq.waitStart = none ∧
  State.reset.acq.acqTimer = none ∧ State.reset.acq.holdTimer = none ∧
  State.reset.acq.controls = ⟨false, .four, .c11, 2000⟩ ∧
  State.reset.frames.bufs = Three.all .empty ∧ State.reset.frames.counter = 0 ∧
  State.reset.frames.slips = 0 ∧ State.reset.frames.threshold = 1000 ∧ State.reset.frames.armed = true ∧
  State.reset.timer.mode = .free ∧ State.reset.timer.running = true ∧
  State.reset.timer.current = 16666667 ∧ State.reset.timer.staged = 16666667 ∧
  State.reset.timer.free = 16666667 ∧ State.reset.timer.position = 0 ∧ State.reset.timer.counter = 0 ∧
  State.reset.master = ⟨0, 0, 32, false⟩ ∧
  (∀ k : Output,
    (State.reset.chans.get k).state = .disabled ∧ (State.reset.chans.get k).presence = 0 ∧
    (State.reset.chans.get k).goodRun = 0 ∧ (State.reset.chans.get k).badRun = 0 ∧
    (State.reset.chans.get k).port = .code0 ∧
    (State.reset.chans.get k).controls = ⟨3, 48, 64, 128, .refill, true, .normal, .grid, 2048⟩) ∧
  State.reset.banks.revision = 0 ∧ State.reset.banks.pendState = .editable ∧
  (∀ pending : Bool,
    (State.reset.readBank pending).scene.canvasW = 1920 ∧ (State.reset.readBank pending).scene.canvasH = 1080 ∧
    (State.reset.readBank pending).scene.rasterW = 1920 ∧ (State.reset.readBank pending).scene.rasterH = 1080 ∧
    (State.reset.readBank pending).scene.ceiling = 1 ∧
    (State.reset.readBank pending).scene.decode.length = 257 ∧
    (∀ i < 257, (State.reset.readBank pending).scene.decode[i]? = some (min 65535 (256 * i))) ∧
    ∀ k : Output,
      ((State.reset.readBank pending).scene.outs.get k).pitch = 64 ∧
      ((State.reset.readBank pending).scene.outs.get k).points.length = 1200 ∧
      (∀ n < 1200, ((State.reset.readBank pending).scene.outs.get k).points[n]? =
        some ⟨1024 * (n % 31 : Nat), 1024 * (n / 31 : Nat), 1024⟩) ∧
      ((State.reset.readBank pending).scene.outs.get k).coverage = ⟨0, 1920, 0, 1080, 0, 0, 0, 0⟩ ∧
      ((State.reset.readBank pending).scene.outs.get k).tone = ⟨⟨4096, 4096, 4096⟩, ⟨0, 0, 0⟩⟩ ∧
      ((State.reset.readBank pending).scene.outs.get k).encode.length = 257 ∧
      (∀ i < 257, ((State.reset.readBank pending).scene.outs.get k).encode[i]? =
        some (min 4095 (16 * i))) ∧
      ∀ n, (State.reset.readBank pending).flagOf k n = false) ∧
  State.reset.profiles.ctl = .scanning ∧ State.reset.profiles.boot = none ∧
  State.reset.profiles.examined = 0 ∧
  (∀ n : ProfileNo, State.reset.profiles.entry n = ⟨none, 0⟩) ∧
  State.reset.mode = ⟨.startup, .run⟩ ∧
  State.reset.link = ⟨.hunt, none, none, none⟩ ∧
  State.reset.ind = ⟨[], 0, ⟨false, false, Four.all false, false, false, false, false, false⟩, true⟩ ∧
  State.reset.probe = .idle

/-- R164, R180, R21, R162: RESET_N at any time, and the end of a RESET's reply, bring every block to its
reset values and read the straps; frame memory and the profile flash stay. Log 26 adds what the model
keeps of its own: the free-value counter and the waiting commands. -/
def Obligations.BothResetsRestoreTheResetValues : Prop :=
  ∀ (s : State) (env : Env) (tag : Byte) (body : List Byte),
    exec (.resetN env.straps) s = .next { State.reset with
      pins := { State.reset.pins with straps := env.straps }
      frames := { State.reset.frames with mem := s.frames.mem }
      profiles := { State.reset.profiles with flash := s.profiles.flash }
      free := s.free
      pending := s.pending } ∧
    (s.link.sending = some ⟨0x02, tag, .ok, body⟩ →
      exec (.replyTransmitEnd env) s = exec (.resetN env.straps) s) ∧
    (s.Free →
      exec (.reset tag []) s =
        .next (s.unlessStarting ⟨0x02, tag, []⟩ (s.replied ⟨0x02, tag, []⟩ .ok [])))

/-! ### The Control Link -/

/-- R172: a request frame that completes while another is handled waits in the holding buffer, or, when
that is full, is discarded with LINK_DISCARD and no reply; nothing else changes. This holds for every
request command. -/
def Obligations.RequestWaitsOrIsDiscarded : Prop :=
  ∀ (c : Instr) (f g : Frame) (s : State), c.frame? = some f → s.link.handling = some g →
    (s.link.holding = none →
      exec c s = .next { s with link := ⟨.hunt, some f, some g, s.link.sending⟩ }) ∧
    (∀ w, s.link.holding = some w →
      exec c s = .next { s with
        link := ⟨.hunt, some w, some g, s.link.sending⟩
        ind := { s.ind with flags := { s.ind.flags with linkDiscard := true } } })

/-- R173, R164: the link's two checks come first, in every mode: a code that is not in the catalogue,
and a length that is not the catalogue's, refuse every request and change nothing else. Then, in STARTUP,
every request is refused with STARTING but for IDENTIFY, STATUS, FETCH and PROFILE_LIST. -/
def Obligations.LinkAndStartupRefusals : Prop :=
  ∀ (c : Instr) (f : Frame) (s : State), c.frame? = some f → s.Free →
    (f.code.toNat ∉ catalogueCodes → exec c s = .next (s.replied f .unknownRequest [])) ∧
    (f.code.toNat ∈ catalogueCodes → catalogueFits f.code.toNat f.body = false →
      exec c s = .next (s.replied f .badLength [])) ∧
    (s.mode.mode = .startup →
      f.code.toNat ∈ catalogueCodes → catalogueFits f.code.toNat f.body = true →
      f.code ≠ 0x01 → f.code ≠ 0x03 → f.code ≠ 0x04 → f.code ≠ 0x54 →
      exec c s = .next (s.replied f .starting []))

/-- R172: at the end of a reply that starts no reset, handling ends; a waiting request leaves the holding
buffer, is handled and is answered with its own code and tag. Its effect is the one it has when its frame
completes with no request being handled: `c` is any command that brings it, a WAKE with what the part
senses now. Only the receiver, which may hold part of another frame, is left as it was. -/
def Obligations.ReplyEndHandsOverTheWaitingRequest : Prop :=
  ∀ (s : State) (env : Env) (r : Reply), s.link.sending = some r →
    ¬ (r.code = 0x02 ∧ r.status = .ok) →
    (s.link.holding = none →
      exec (.replyTransmitEnd env) s = .next { s with link := ⟨s.link.rx, none, none, none⟩ }) ∧
    (∀ f, s.link.holding = some f →
      (∃ t st body,
        exec (.replyTransmitEnd env) s = .next t ∧
        t.link = ⟨s.link.rx, none, some f, some ⟨f.code, f.tag, st, body⟩⟩) ∧
      ∀ c : Instr, c.frame? = some f → (f.code = 0x09 → c = .wake f.tag f.body env) → ∃ t,
        exec c { s with link := ⟨.hunt, none, none, none⟩ } = .next t ∧
        exec (.replyTransmitEnd env) s = .next { t with link := { t.link with rx := s.link.rx } })

/-- R170, R171: the receiver byte by byte, and its three errors. A frame whose last byte arrives is the
request frame of R172, here the one REQUEST_WAITS_IN_HOLDING_BUFFER brings. -/
def Obligations.ReceiverAssemblesAndDiscardsFrames : Prop :=
  ∀ (s : State) (b : Byte) (env : Env),
    (s.link.rx = .hunt →
      exec (.rxdByteReceived b env) s =
        .next (if b = 0xC3 then { s with link := { s.link with rx := .header [] } } else s) ∧
      exec .interByteGapExpiry s = .next s ∧
      ∀ e, exec (.frameReceiveError e) s = .next s) ∧
    (∀ bytes, s.link.rx = .header bytes → bytes.length < 3 →
      exec (.rxdByteReceived b env) s =
        .next { s with link := { s.link with rx := .header (bytes ++ [b]) } }) ∧
    (∀ code tag low, s.link.rx = .header [code, tag, low] →
      (low.toNat + 256 * b.toNat = 0 →
        exec (.rxdByteReceived b env) s = exec (.requestWaitsInHoldingBuffer ⟨code, tag, []⟩ env) s) ∧
      (1 ≤ low.toNat + 256 * b.toNat → low.toNat + 256 * b.toNat ≤ 1024 →
        exec (.rxdByteReceived b env) s = .next { s with
          link := { s.link with rx := .body code tag (low.toNat + 256 * b.toNat) [] } }) ∧
      (1024 < low.toNat + 256 * b.toNat →
        exec (.rxdByteReceived b env) s = .next { s with
          link := { s.link with rx := .hunt }
          ind := { s.ind with flags := { s.ind.flags with linkDiscard := true } } }) ∧
      exec (.frameReceiveError .oversize) s = .next { s with
        link := { s.link with rx := .hunt }
        ind := { s.ind with flags := { s.ind.flags with linkDiscard := true } } }) ∧
    (∀ code tag n bytes, s.link.rx = .body code tag n bytes →
      (bytes.length + 1 < n →
        exec (.rxdByteReceived b env) s =
          .next { s with link := { s.link with rx := .body code tag n (bytes ++ [b]) } }) ∧
      (bytes.length + 1 = n →
        exec (.rxdByteReceived b env) s =
          exec (.requestWaitsInHoldingBuffer ⟨code, tag, bytes ++ [b]⟩ env) s)) ∧
    (s.link.rx ≠ .hunt →
      exec .interByteGapExpiry s = .next { s with
        link := { s.link with rx := .hunt }
        ind := { s.ind with flags := { s.ind.flags with linkDiscard := true } } } ∧
      exec (.frameReceiveError .badStopBit) s = exec .interByteGapExpiry s)

/-! ### General requests (Chapter 10) -/

/-- R188: IDENTIFY, taken in every mode, returns 0B04h, 1, the straps and 1024. -/
def Obligations.IdentifyReportsThePart : Prop :=
  ∀ (s : State) (tag : Byte), s.Free →
    exec (.identify tag []) s = .next (s.replied ⟨0x01, tag, []⟩ .ok
      [0x04, 0x0B, 0x01, s.pins.straps.setWidth 8, 0x00, 0x04])

/-- R187, R182: STATUS, taken in every mode, returns 25 bytes and clears the flags; each field of the
body as the layout gives it. -/
def Obligations.StatusReportsAndClearsTheFlags : Prop :=
  ∀ (s : State) (tag : Byte), s.Free →
    ∃ body : List Byte,
      exec (.status tag []) s = .next
        (({ s with ind := { s.ind with flags := noFlags } } : State).replied ⟨0x03, tag, []⟩ .ok body) ∧
      body.length = 25 ∧
      byteAt body 0 = s.mode.mode.code ∧ byteAt body 1 = s.acq.state.code ∧
      (∀ k : Output, byteAt body (2 + k.val) = (s.chans.get k).state.code ∧
        u16At body (6 + 2 * k.val) = (s.chans.get k).presence % 65536) ∧
      u16At body 14 = s.master.level % 65536 ∧ u16At body 16 = s.master.target % 65536 ∧
      byteAt body 18 = s.banks.pendState.code ∧ u16At body 19 = s.banks.revision.toNat ∧
      byteAt body 21 = s.profiles.ctl.code ∧ byteAt body 22 = s.ind.queue.length % 256 ∧
      u16At body 23 = s.ind.flags.word

/-- R185, R186: FETCH, taken in every mode, removes the first eight records, or all when fewer wait, and
releases ATTN_N when none is left; SET_MASK writes all 16 bits and returns the previous mask. -/
def Obligations.FetchRemovesAndSetMaskWrites : Prop :=
  ∀ (s : State) (tag : Byte), s.Free →
    exec (.fetch tag []) s = .next
      (({ s with ind := { s.ind with
          queue := s.ind.queue.drop 8
          attnN := decide (s.ind.queue.length ≤ 8) } } : State).replied ⟨0x04, tag, []⟩ .ok
        (BitVec.ofNat 8 (min 8 s.ind.queue.length) ::
          ((s.ind.queue.take 8).map Indication.bytes).flatten)) ∧
    ∀ body : List Byte, body.length = 2 →
      exec (.setMask tag body) s = .next (s.unlessStarting ⟨0x05, tag, body⟩
        (({ s with ind := { s.ind with mask := BitVec.ofNat 16 (u16At body 0) } } : State).replied
          ⟨0x05, tag, body⟩ .ok [s.ind.mask.setWidth 8, (s.ind.mask >>> 8).setWidth 8]))

/-! ### Standby and wake -/

/-- R166, R163: STANDBY from RUN or SETUP enters DIMMING, remembers the mode left, posts MODE_CHANGE and
takes the master target to 0; in DIMMING and STANDBY it changes nothing. The reply carries the mode. -/
def Obligations.StandbyRequestStartsDimming : Prop :=
  ∀ (s : State) (tag : Byte), s.Free →
    (∀ home : HomeMode, s.mode.mode = home.toMode →
      exec (.standby tag []) s = .next
        (({ s with
            mode := ⟨.dimming, home⟩
            ind := s.ind.posted (.modeChange .dimming) s.timer.counter
            master := { s.master with target := 0 } } : State).replied ⟨0x08, tag, []⟩ .ok [3])) ∧
    (s.mode.mode = .dimming ∨ s.mode.mode = .standby →
      exec (.standby tag []) s =
        .next (s.replied ⟨0x08, tag, []⟩ .ok [BitVec.ofNat 8 s.mode.mode.code])) ∧
    (s.mode.mode = .startup →
      exec (.standby tag []) s = .next (s.replied ⟨0x08, tag, []⟩ .starting []))

/-- R166, R168, R38: WAKE_N changes nothing outside DIMMING and STANDBY, cancels DIMMING, and wakes from
STANDBY: the remembered mode, the timer in FREE with a presentation frame start at once. WAKE leads to the
state that WAKE_N leads to and replies with the mode; its clause takes that state as `t`, which exists by
the clauses on WAKE_N. Two points are the model's: the equation of `t.timer` keeps the time of the last
start, `lastStart`, over a wake (log 6, DEDUCED), and the reply's mode is that after the start at once, RUN
where an ARMED bank swaps there with SETUP remembered (log 22, DEDUCED). -/
def Obligations.WakeReturnsToTheRememberedMode : Prop :=
  ∀ (s : State) (env : Env) (tag : Byte),
    (s.mode.mode = .run ∨ s.mode.mode = .setup ∨ s.mode.mode = .startup →
      exec (.wakeN env) s = .next s) ∧
    (s.mode.mode = .dimming →
      exec (.wakeN env) s = .next (State.retarget { s with
        mode := { s.mode with mode := s.mode.remembered.toMode }
        ind := s.ind.posted (.modeChange s.mode.remembered.toMode) s.timer.counter })) ∧
    (s.mode.mode = .standby → s.acq.state = .noSignal → s.acq.frame = none → ∃ t,
      exec (.wakeN env) s = .next t ∧
      t.mode.remembered = s.mode.remembered ∧
      t.mode.mode = (if s.mode.remembered = .setup ∧ s.banks.pendState ≠ .armed then .setup
        else if s.mode.remembered = .setup ∧ s.profiles.ctl.isStoring = true then .setup
        else .run) ∧
      t.timer = { s.timer with
        mode := .free, running := true, current := s.timer.staged, position := 0
        counter := s.timer.counter + 1 } ∧
      t.pins.linkGood = env.link ∧ t.acq = s.acq ∧ t.profiles = s.profiles ∧ t.link = s.link ∧
      t.frames.mem = s.frames.mem ∧ t.TargetFollows) ∧
    (s.Free → s.mode.mode ≠ .startup → ∀ t,
      exec (.wakeN env) (s.handlingOf ⟨0x09, tag, []⟩) = .next t →
      exec (.wake tag [] env) s =
        .next (t.replied ⟨0x09, tag, []⟩ .ok [BitVec.ofNat 8 t.mode.mode.code])) ∧
    (s.Free → s.mode.mode = .startup →
      exec (.wake tag [] env) s = .next (s.replied ⟨0x09, tag, []⟩ .starting []))

/-! ### Requests of Chapters 1 and 2 -/

/-- R3: the actions on leaving the locked states for a state outside them: the timer changes to FREE and
keeps its period, a frame being written is abandoned, the lock counts and waiting events go, the hold
timer starts. Outside the locked states, none of these. -/
def Spec.leaving (s : State) : State :=
  if s.acq.state = .locking ∨ s.acq.state = .locked then
    { s with
      timer := { s.timer with mode := .free, staged := s.timer.current }
      frames := { s.frames with bufs := match s.acq.frame.bind InFrame.write with
        | none => s.frames.bufs
        | some w => s.frames.bufs.set w.buf .empty }
      acq := { s.acq with
        frame := s.acq.frame.map fun f => { f with write := none }
        good := 0, bad := 0, waitCadence := none, waitStart := none, alignDue := false
        holdTimer := if s.acq.controls.hold = 0 then none else some s.acq.controls.hold } }
  else s

/-- R18: the acquisition timer that starts under a limit; OFF does not run it. -/
def Spec.limitTimer (c : InputControls) : Option AcqLimit := if c.limit = .off then none else some c.limit

/-- R7: the target period of a measured format under a cadence pair. -/
def Spec.targetPeriod (m : FrameRecord) (c : Cadence) : Nat := (m.period * c.d + c.n / 2) / c.n

/-- R7, R37: a target period in range. -/
def Spec.periodFits (p : Nat) : Prop := 8000000 ≤ p ∧ p ≤ 42000000

/-- R7, R9: a measured format has the active canvas size. -/
def Spec.sizeFits (m : FrameRecord) (s : State) : Prop :=
  m.width = s.active.scene.canvasW ∧ m.height = s.active.scene.canvasH

/-- R7: the state the format check gives a measured format. -/
def Spec.checkedState (m : FrameRecord) (s : State) : AcqState :=
  if Spec.targetPeriod m s.acq.controls.cadence < 8000000 ∨
      42000000 < Spec.targetPeriod m s.acq.controls.cadence
  then .unsupported
  else if m.width ≠ s.active.scene.canvasW ∨ m.height ≠ s.active.scene.canvasH then .mismatch
  else if s.acq.controls.breakpoint then .awaitAccept
  else .locking

/-- R7, R11, R2: what the format check of a measured format does outside the locked states. -/
def Spec.judged (m : FrameRecord) (s : State) : State :=
  State.retarget { s with
    acq := { s.acq with
      state := Spec.checkedState m s, measured := some m
      target := some (Spec.targetPeriod m s.acq.controls.cadence)
      acqTimer := if Spec.checkedState m s = .locking then Spec.limitTimer s.acq.controls else none
      good := if Spec.checkedState m s = .locking then 0 else s.acq.good
      bad := if Spec.checkedState m s = .locking then 0 else s.acq.bad
      waitCadence := if Spec.checkedState m s = .locking then none else s.acq.waitCadence
      waitStart := if Spec.checkedState m s = .locking then none else s.acq.waitStart
      alignDue := if Spec.checkedState m s = .locking then true else s.acq.alignDue
      holdTimer := if Spec.checkedState m s = .locking then none else s.acq.holdTimer }
    timer := { s.timer with mode := if Spec.checkedState m s = .locking then .follow else s.timer.mode }
    ind := if Spec.checkedState m s = s.acq.state then s.ind
      else s.ind.posted (.inputState (Spec.checkedState m s) m) s.timer.counter }

/-- R15: the acquisition timer after a request sets the limit `new` in place of `old`: OFF stops it, a
limit in place of OFF starts it in MEASURING and LOCKING, and a running one keeps its own. -/
def Spec.limitChange (old new : AcqLimit) (a : Acquisition) : Option AcqLimit :=
  if new = .off then none
  else if old = .off ∧ (a.state = .measuring ∨ a.state = .locking) then some new
  else a.acqTimer

/-- The state with new input controls, their limit acting on the acquisition timer (R15, R18). -/
def Spec.controlled (new : InputControls) (s : State) : State :=
  { s with acq := { s.acq with
    controls := new, acqTimer := Spec.limitChange s.acq.controls.limit new.limit s.acq } }

/-- R18, R11: LOCKING afresh with target `p`, after a cadence change in a locked state. A fresh LOCKING from
LOCKING clears the counts and restarts the timer as one from LOCKED does (log 19, DEDUCED). -/
def Spec.relocked (p : Nat) (m : FrameRecord) (s : State) : State :=
  State.retarget { s with
    acq := { s.acq with
      state := .locking, target := some p, good := 0, bad := 0, waitCadence := none, waitStart := none
      alignDue := true, holdTimer := none, acqTimer := Spec.limitTimer s.acq.controls }
    ind := if s.acq.state = .locking then s.ind
      else s.ind.posted (.inputState .locking m) s.timer.counter }

/-- R18, R3: UNSUPPORTED with target `p`, after a cadence change in a locked state. -/
def Spec.unsupported (p : Nat) (m : FrameRecord) (s : State) : State :=
  State.retarget { Spec.leaving s with
    acq := { (Spec.leaving s).acq with state := .unsupported, target := some p, acqTimer := none }
    ind := s.ind.posted (.inputState .unsupported m) s.timer.counter }

/-- The input controls a SET_INPUT_CONTROL body gives over the present ones, field by field: a marked
field's value, a kept one elsewhere (R18, R176). -/
def Spec.inputControls (body : List Byte) (c new : InputControls) : Prop :=
  (if (byteAt body 0).testBit 0 then
    (byteAt body 1 = 0 ∧ new.breakpoint = false) ∨ (byteAt body 1 = 1 ∧ new.breakpoint = true)
    else new.breakpoint = c.breakpoint) ∧
  (if (byteAt body 0).testBit 1 then byteAt body 2 = new.limit.code else new.limit = c.limit) ∧
  (if (byteAt body 0).testBit 2 then byteAt body 3 = new.cadence.code else new.cadence = c.cadence) ∧
  (if (byteAt body 0).testBit 3 then new.hold = min (u16At body 4) 10000 else new.hold = c.hold)

/-- R18, R15, R177: SET_INPUT_CONTROL. A carried value out of its list refuses the whole request. Otherwise
the controls are set together, the hold time clamped, and the reply carries the marks and the previous
value of each marked control, 0 elsewhere. The new limit acts on the acquisition timer (R15). The new
values act by state: in NO_SIGNAL and MEASURING, and elsewhere where the cadence pair stays and the
breakpoint is not turned off in AWAIT_ACCEPT, nothing else changes; in UNSUPPORTED, MISMATCH and
AWAIT_ACCEPT the format check runs again; in a locked state a new cadence pair gives a new target, and
LOCKING afresh or UNSUPPORTED by its range. The counts, the waiting events and the timer of a fresh LOCKING
entered from LOCKING are the model's (log 19, DEDUCED). -/
def Obligations.SetInputControlSetsAndActs : Prop :=
  ∀ (s : State) (tag : Byte) (body : List Byte), s.Free → s.mode.mode ≠ .startup → body.length = 6 →
    ((¬ ∃ new, Spec.inputControls body s.acq.controls new) →
      exec (.setInputControl tag body) s = .next (s.replied ⟨0x10, tag, body⟩ .badArgument [])) ∧
    (∀ new, Spec.inputControls body s.acq.controls new → ∃ t,
      exec (.setInputControl tag body) s = .next t ∧
      t.acq.controls = new ∧ t.TargetFollows ∧
      t.link = (s.replied ⟨0x10, tag, body⟩
        (if (byteAt body 0).testBit 3 ∧ 10000 < u16At body 4 then .clamped else .ok)
        (BitVec.ofNat 8 (byteAt body 0) ::
          ((if (byteAt body 0).testBit 0 then [if s.acq.controls.breakpoint then 1 else 0] else [0]) ++
          (if (byteAt body 0).testBit 1 then [BitVec.ofNat 8 s.acq.controls.limit.code] else [0]) ++
          (if (byteAt body 0).testBit 2 then [BitVec.ofNat 8 s.acq.controls.cadence.code] else [0]) ++
          (if (byteAt body 0).testBit 3 then b16 s.acq.controls.hold else [0, 0])))).link ∧
      (s.acq.state = .noSignal ∨ s.acq.state = .measuring ∨
          new.cadence = s.acq.controls.cadence ∧
          ¬ (s.acq.state = .awaitAccept ∧ s.acq.controls.breakpoint = true ∧ new.breakpoint = false) →
        t = { State.retarget (Spec.controlled new s) with link := t.link }) ∧
      (∀ m, s.acq.measured = some m →
        (s.acq.state = .unsupported ∨ s.acq.state = .mismatch ∨ s.acq.state = .awaitAccept →
          new.cadence ≠ s.acq.controls.cadence ∨
            s.acq.state = .awaitAccept ∧ s.acq.controls.breakpoint = true ∧ new.breakpoint = false →
          t = { Spec.judged m (Spec.controlled new s) with link := t.link }) ∧
        (s.acq.state = .locking ∨ s.acq.state = .locked → new.cadence ≠ s.acq.controls.cadence →
          (Spec.periodFits (Spec.targetPeriod m new.cadence) →
            t = { Spec.relocked (Spec.targetPeriod m new.cadence) m (Spec.controlled new s) with
              link := t.link }) ∧
          (¬ Spec.periodFits (Spec.targetPeriod m new.cadence) →
            t = { Spec.unsupported (Spec.targetPeriod m new.cadence) m (Spec.controlled new s) with
              link := t.link }))) ∧
      t.pins = s.pins ∧ t.chans = s.chans ∧ t.banks = s.banks ∧ t.profiles = s.profiles ∧
      t.mode = s.mode ∧ t.probe = s.probe ∧ t.free = s.free ∧ t.frames.mem = s.frames.mem)

/-- R19, R11: ACCEPT_INPUT moves AWAIT_ACCEPT to LOCKING: the timer follows, the counts clear, alignment
is outstanding, the acquisition timer starts and the hold timer is cancelled; the breakpoint stays. In
any other acquisition state it is refused with WRONG_STATE, in STARTUP with STARTING. -/
def Obligations.AcceptInputReleasesTheBreakpoint : Prop :=
  ∀ (s : State) (tag : Byte), s.Free →
    exec (.acceptInput tag []) s = .next (s.unlessStarting ⟨0x11, tag, []⟩
      (if s.acq.state = .awaitAccept then
        (State.retarget { s with
          acq := { s.acq with
            state := .locking, good := 0, bad := 0, waitCadence := none, waitStart := none
            alignDue := true, holdTimer := none
            acqTimer := if s.acq.controls.limit = .off then none else some s.acq.controls.limit }
          timer := { s.timer with mode := .follow }
          ind := s.ind.posted (.inputState .locking (s.acq.measured.getD ⟨0, 0, 0⟩)) s.timer.counter }).replied
          ⟨0x11, tag, []⟩ .ok []
      else s.replied ⟨0x11, tag, []⟩ .wrongState []))

/-- R37: SET_FREE_PERIOD clamps into 8,000,000 to 42,000,000 ns; the free period takes the value, and so
does the staged period in FREE; the reply carries the previous free period. -/
def Obligations.SetFreePeriodWritesThePeriods : Prop :=
  ∀ (s : State) (tag : Byte) (body : List Byte), s.Free → body.length = 4 →
    exec (.setFreePeriod tag body) s = .next (s.unlessStarting ⟨0x18, tag, body⟩
      (({ s with timer := { s.timer with
          free := max 8000000 (min 42000000 (u32At body 0))
          staged := if s.timer.mode = .free then max 8000000 (min 42000000 (u32At body 0))
            else s.timer.staged } } : State).replied ⟨0x18, tag, body⟩
        (if u32At body 0 < 8000000 ∨ 42000000 < u32At body 0 then .clamped else .ok)
        (b32 s.timer.free)))

/-- R42, R39, R177: SET_MASTER sets the marked ones of mute and step, the step clamped into 1 to 4096; a
carried mute that is neither 0 nor 1 refuses it whole; the target follows at once. -/
def Obligations.SetMasterWritesMuteAndStep : Prop :=
  ∀ (s : State) (tag : Byte) (body : List Byte), s.Free → body.length = 4 →
    exec (.setMaster tag body) s = .next (s.unlessStarting ⟨0x19, tag, body⟩
      (if (byteAt body 0).testBit 0 ∧ 1 < byteAt body 1 then
        s.replied ⟨0x19, tag, body⟩ .badArgument []
      else
        (State.retarget { s with master := { s.master with
          mute := if (byteAt body 0).testBit 0 then decide (byteAt body 1 = 1) else s.master.mute
          step := if (byteAt body 0).testBit 1 then max 1 (min 4096 (u16At body 2))
            else s.master.step } }).replied ⟨0x19, tag, body⟩
          (if (byteAt body 0).testBit 1 ∧ (u16At body 2 < 1 ∨ 4096 < u16At body 2) then .clamped else .ok)
          (BitVec.ofNat 8 (byteAt body 0) ::
            ((if (byteAt body 0).testBit 0 ∧ s.master.mute then [1] else [0]) ++
            (if (byteAt body 0).testBit 1 then b16 s.master.step else [0, 0])))))

/-- R32, R33: READ_COUNTERS reports the counters, then clears the slip count and arms the threshold;
SET_SLIP_THRESHOLD turns 0 into 1 with CLAMPED, takes every other value, and returns the previous one. -/
def Obligations.SlipRequestsReportAndSet : Prop :=
  ∀ (s : State) (tag : Byte) (body : List Byte), s.Free → body.length = 2 →
    exec (.readCounters tag []) s = .next (s.unlessStarting ⟨0x1A, tag, []⟩
      (({ s with frames := { s.frames with slips := 0, armed := true } } : State).replied
        ⟨0x1A, tag, []⟩ .ok
        (b16 s.frames.slips ++ b16 s.frames.threshold ++ (if s.frames.armed then [1] else [0]) ++
          b40 s.frames.counter.toNat ++ b32 s.timer.counter.toNat))) ∧
    exec (.setSlipThreshold tag body) s = .next (s.unlessStarting ⟨0x1B, tag, body⟩
      (({ s with frames := { s.frames with
          threshold := if u16At body 0 = 0 then 1 else u16At body 0 } } : State).replied
        ⟨0x1B, tag, body⟩ (if u16At body 0 = 0 then .clamped else .ok) (b16 s.frames.threshold)))

/-! ### Channel requests -/

/-- R104: a change of channel `k`'s state made by a request: the runs clear, OUTPUT_STATE is posted with
cause HOST, and the master target is taken again. -/
def Spec.hostChange (k : Output) (state : ChanState) (presence : Nat) (s : State) : State :=
  State.retarget { s with
    chans := s.chans.set k { s.chans.get k with state := state, presence := presence, goodRun := 0, badRun := 0 }
    ind := s.ind.posted (.outputState k state .host) s.timer.counter }

/-- The reply of a channel request: state and presence after it (R111, R178). -/
def Spec.channelReply (f : Frame) (k : Output) (s : State) : State :=
  s.replied f .ok (BitVec.ofNat 8 (s.chans.get k).state.code :: b16 (s.chans.get k).presence)

/-- R111 to R114: the three channel requests, by the channel's state. -/
def Obligations.ChannelRequestsChangeTheState : Prop :=
  ∀ (s : State) (tag b : Byte), s.Free → s.mode.mode ≠ .startup → s.TargetFollows →
    (3 < b.toNat →
      exec (.outputEnable tag [b]) s = .next (s.replied ⟨0x20, tag, [b]⟩ .badArgument []) ∧
      exec (.outputDisable tag [b]) s = .next (s.replied ⟨0x21, tag, [b]⟩ .badArgument []) ∧
      exec (.outputRejoin tag [b]) s = .next (s.replied ⟨0x22, tag, [b]⟩ .badArgument [])) ∧
    (∀ k : Output, b.toNat = k.val →
      exec (.outputEnable tag [b]) s = .next (Spec.channelReply ⟨0x20, tag, [b]⟩ k
        (match (s.chans.get k).state with
          | .disabled => Spec.hostChange k .acquiring (s.chans.get k).presence s
          | .retiring => Spec.hostChange k .active (s.chans.get k).presence s
          | _ => s)) ∧
      exec (.outputDisable tag [b]) s = .next (Spec.channelReply ⟨0x21, tag, [b]⟩ k
        (match (s.chans.get k).state with
          | .active => Spec.hostChange k .retiring (s.chans.get k).presence s
          | .acquiring => Spec.hostChange k .disabled (s.chans.get k).presence s
          | .lost => Spec.hostChange k .disabled 0 s
          | .parked => Spec.hostChange k .disabled 0 s
          | _ => s)) ∧
      exec (.outputRejoin tag [b]) s = .next
        (if (s.chans.get k).state = .parked then
          Spec.channelReply ⟨0x22, tag, [b]⟩ k (Spec.hostChange k .active (s.chans.get k).presence s)
        else s.replied ⟨0x22, tag, [b]⟩ .wrongState []))

/-- The output controls a SET_OUTPUT_CONTROL body gives over the present ones (R122, R176). -/
def Spec.outputControls (body : List Byte) (c new : OutputControls) : Prop :=
  (if (u16At body 1).testBit 0 then new.lossConfirm = max 1 (min 15 (byteAt body 3))
    else new.lossConfirm = c.lossConfirm) ∧
  (if (u16At body 1).testBit 1 then new.settle = max 1 (min 255 (u16At body 4)) else new.settle = c.settle) ∧
  (if (u16At body 1).testBit 2 then new.rise = max 1 (min 4096 (u16At body 6)) else new.rise = c.rise) ∧
  (if (u16At body 1).testBit 3 then new.fall = max 1 (min 4096 (u16At body 8)) else new.fall = c.fall) ∧
  (if (u16At body 1).testBit 4 then byteAt body 10 = new.policy.code else new.policy = c.policy) ∧
  (if (u16At body 1).testBit 5 then
    (byteAt body 11 = 0 ∧ new.autoRejoin = false) ∨ (byteAt body 11 = 1 ∧ new.autoRejoin = true)
    else new.autoRejoin = c.autoRejoin) ∧
  (if (u16At body 1).testBit 6 then byteAt body 12 = new.path.code else new.path = c.path) ∧
  (if (u16At body 1).testBit 7 then byteAt body 13 = new.kind.code else new.kind = c.kind) ∧
  (if (u16At body 1).testBit 8 then new.level = min 4095 (u16At body 14) else new.level = c.level)

/-- R177: the controls in the reply of SET_OUTPUT_CONTROL: the previous value where marked, else 0. -/
def Spec.PreviousControls (marks : Nat) (c : OutputControls) (reply : List Byte) : Prop :=
  byteAt reply 3 = (if marks.testBit 0 then c.lossConfirm % 256 else 0) ∧
  u16At reply 4 = (if marks.testBit 1 then c.settle % 65536 else 0) ∧
  u16At reply 6 = (if marks.testBit 2 then c.rise % 65536 else 0) ∧
  u16At reply 8 = (if marks.testBit 3 then c.fall % 65536 else 0) ∧
  byteAt reply 10 = (if marks.testBit 4 then c.policy.code else 0) ∧
  byteAt reply 11 = (if marks.testBit 5 ∧ c.autoRejoin = true then 1 else 0) ∧
  byteAt reply 12 = (if marks.testBit 6 then c.path.code else 0) ∧
  byteAt reply 13 = (if marks.testBit 7 then c.kind.code else 0) ∧
  u16At reply 14 = (if marks.testBit 8 then c.level % 65536 else 0)

/-- R122, R177, R39: SET_OUTPUT_CONTROL: an output number past 3 or a carried value out of its list
refuses it whole; otherwise the carried controls are written, clamped, and nothing else changes but the
master target, which follows a change of policy; CLAMPED exactly when a carried number was out of range;
the reply carries the previous value of each marked control, 0 elsewhere. -/
def Obligations.SetOutputControlWritesControlsOnly : Prop :=
  ∀ (s : State) (tag : Byte) (body : List Byte), s.Free → s.mode.mode ≠ .startup → body.length = 16 →
    (3 < byteAt body 0 →
      exec (.setOutputControl tag body) s = .next (s.replied ⟨0x23, tag, body⟩ .badArgument [])) ∧
    (∀ k : Output, byteAt body 0 = k.val →
      ((¬ ∃ new, Spec.outputControls body (s.chans.get k).controls new) →
        exec (.setOutputControl tag body) s = .next (s.replied ⟨0x23, tag, body⟩ .badArgument [])) ∧
      (∀ new, Spec.outputControls body (s.chans.get k).controls new → ∃ st previous,
        exec (.setOutputControl tag body) s = .next
          ((State.retarget { s with
            chans := s.chans.set k { s.chans.get k with controls := new } }).replied
            ⟨0x23, tag, body⟩ st previous) ∧
        (st = .ok ∨ st = .clamped) ∧
        (st = .clamped ↔
          ((u16At body 1).testBit 0 = true ∧ (byteAt body 3 < 1 ∨ 15 < byteAt body 3)) ∨
          ((u16At body 1).testBit 1 = true ∧ (u16At body 4 < 1 ∨ 255 < u16At body 4)) ∨
          ((u16At body 1).testBit 2 = true ∧ (u16At body 6 < 1 ∨ 4096 < u16At body 6)) ∨
          ((u16At body 1).testBit 3 = true ∧ (u16At body 8 < 1 ∨ 4096 < u16At body 8)) ∨
          ((u16At body 1).testBit 8 = true ∧ 4095 < u16At body 14)) ∧
        previous.length = 16 ∧ byteAt previous 0 = k.val ∧ u16At previous 1 = u16At body 1 ∧
        Spec.PreviousControls (u16At body 1) (s.chans.get k).controls previous))

/-! ### Bank requests (Chapters 3, 4, 5 and 7) -/

/-- R132, R136, R140: outside STARTUP an edit, a COMMIT and a REVERT are refused with ARMED while the
pending bank is ARMED, with BUSY while it is SYNCING or LOADING, whatever their body says. -/
def Obligations.EditsAreRefusedUnlessEditable : Prop :=
  ∀ (c : Instr) (f : Frame) (s : State), c.frame? = some f → s.Free → s.mode.mode ≠ .startup →
    f.code.toNat ∈ [0x30, 0x31, 0x32, 0x34, 0x35, 0x36, 0x38, 0x3A] →
    catalogueFits f.code.toNat f.body = true →
    (s.banks.pendState = .armed → exec c s = .next (s.replied f .armed [])) ∧
    (s.banks.pendState = .syncing ∨ s.banks.pendState = .loading →
      exec c s = .next (s.replied f .busy []))

/-- What an edit that stage 3 takes, or refuses with BAD_ARGUMENT, leads to in any mode and pending
state. -/
def Spec.editOutcome (f : Frame) (taken s : State) : State := s.unlessStarting f (s.whenEditable f taken)

/-- R133, R132, R134: WRITE_SCENE writes the marked ones of the five scene-wide fields of the pending
bank, each clamped into its range; CLAMPED exactly when one was out of range. -/
def Obligations.WriteSceneWritesTheMarkedFields : Prop :=
  ∀ (s : State) (tag : Byte) (body : List Byte), s.Free → body.length = 10 →
    ∃ st : Status,
      exec (.writeScene tag body) s = .next (Spec.editOutcome ⟨0x30, tag, body⟩
        ((s.withPendingScene { s.pendingBank.scene with
          canvasW := if (byteAt body 0).testBit 0 then max 640 (min 4096 (u16At body 1))
            else s.pendingBank.scene.canvasW
          canvasH := if (byteAt body 0).testBit 1 then max 360 (min 2304 (u16At body 3))
            else s.pendingBank.scene.canvasH
          rasterW := if (byteAt body 0).testBit 2 then max 640 (min 3840 (u16At body 5))
            else s.pendingBank.scene.rasterW
          rasterH := if (byteAt body 0).testBit 3 then max 360 (min 2160 (u16At body 7))
            else s.pendingBank.scene.rasterH
          ceiling := if (byteAt body 0).testBit 4 then max 1 (min 4 (byteAt body 9))
            else s.pendingBank.scene.ceiling }).replied ⟨0x30, tag, body⟩ st []) s) ∧
      (st = .ok ∨ st = .clamped) ∧
      (st = .clamped ↔
        ((byteAt body 0).testBit 0 = true ∧ (u16At body 1 < 640 ∨ 4096 < u16At body 1)) ∨
        ((byteAt body 0).testBit 1 = true ∧ (u16At body 3 < 360 ∨ 2304 < u16At body 3)) ∨
        ((byteAt body 0).testBit 2 = true ∧ (u16At body 5 < 640 ∨ 3840 < u16At body 5)) ∨
        ((byteAt body 0).testBit 3 = true ∧ (u16At body 7 < 360 ∨ 2160 < u16At body 7)) ∨
        ((byteAt body 0).testBit 4 = true ∧ (byteAt body 9 < 1 ∨ 4 < byteAt body 9)))

/-- A list with `count` entries from index `first` on replaced by `new 0`, `new 1`, and so on. -/
def Spec.Overwritten {α : Type} (first count : Nat) (new : Nat → α) (old after : List α) : Prop :=
  after.length = old.length ∧
  ∀ n < old.length, after[n]? =
    if first ≤ n ∧ n < first + count then some (new (n - first)) else old[n]?

/-- R45, R46, R179: point record `i` of a WRITE_MESH body, clamped. -/
def Spec.pointOf (body : List Byte) (i : Nat) : Point :=
  ⟨max (-16384) (min 81919 (s32At body (4 + 10 * i))),
    max (-16384) (min 81919 (s32At body (8 + 10 * i))), min 2048 (u16At body (12 + 10 * i))⟩

/-- R46: a value of record `i` is out of its range. -/
def Spec.pointOut (body : List Byte) (i : Nat) : Prop :=
  s32At body (4 + 10 * i) < -16384 ∨ 81919 < s32At body (4 + 10 * i) ∨
  s32At body (8 + 10 * i) < -16384 ∨ 81919 < s32At body (8 + 10 * i) ∨ 2048 < u16At body (12 + 10 * i)

/-- R46, R47: WRITE_LAYOUT writes the pitch of one output of the pending bank; WRITE_MESH writes 1 to 64
records of its 1200, clamped; an output, pitch, count or index out of range is refused with
BAD_ARGUMENT. -/
def Obligations.WriteLayoutAndMeshWriteOneOutput : Prop :=
  ∀ (s : State) (tag : Byte) (body : List Byte), s.Free →
    (body.length = 2 →
      (3 < byteAt body 0 ∨ byteAt body 1 ∉ [16, 32, 64, 128] →
        exec (.writeLayout tag body) s = .next (Spec.editOutcome ⟨0x31, tag, body⟩
          (s.replied ⟨0x31, tag, body⟩ .badArgument []) s)) ∧
      ∀ k : Output, byteAt body 0 = k.val → byteAt body 1 ∈ [16, 32, 64, 128] →
        exec (.writeLayout tag body) s = .next (Spec.editOutcome ⟨0x31, tag, body⟩
          ((s.withPendingScene (s.pendingBank.scene.withOutput k
            { s.pendingBank.scene.outs.get k with pitch := byteAt body 1 })).replied
              ⟨0x31, tag, body⟩ .ok []) s)) ∧
    (body.length = 4 + 10 * byteAt body 3 →
      (3 < byteAt body 0 ∨ byteAt body 3 < 1 ∨ 64 < byteAt body 3 ∨ 1200 < u16At body 1 + byteAt body 3 →
        exec (.writeMesh tag body) s = .next (Spec.editOutcome ⟨0x32, tag, body⟩
          (s.replied ⟨0x32, tag, body⟩ .badArgument []) s)) ∧
      ∀ k : Output, byteAt body 0 = k.val → 1 ≤ byteAt body 3 → byteAt body 3 ≤ 64 →
        u16At body 1 + byteAt body 3 ≤ 1200 →
        (s.pendingBank.scene.outs.get k).points.length = 1200 →
        ∃ (points : List Point) (st : Status),
          Spec.Overwritten (u16At body 1) (byteAt body 3) (Spec.pointOf body)
            (s.pendingBank.scene.outs.get k).points points ∧
          (st = .ok ∨ st = .clamped) ∧
          (st = .clamped ↔ ∃ i < byteAt body 3, Spec.pointOut body i) ∧
          exec (.writeMesh tag body) s = .next (Spec.editOutcome ⟨0x32, tag, body⟩
            ((s.withPendingScene (s.pendingBank.scene.withOutput k
              { s.pendingBank.scene.outs.get k with points := points })).replied
                ⟨0x32, tag, body⟩ st []) s))

/-- R87: WRITE_TABLE writes 1 to 64 entries of the decode table, or of an output's encode table, its
entries limited to 4095; a selector, count or index out of range is refused with BAD_ARGUMENT. -/
def Obligations.WriteTableWritesTheEntries : Prop :=
  ∀ (s : State) (tag : Byte) (body : List Byte), s.Free → body.length = 4 + 2 * byteAt body 3 →
    (4 < byteAt body 0 ∨ byteAt body 3 < 1 ∨ 64 < byteAt body 3 ∨ 257 < u16At body 1 + byteAt body 3 →
      exec (.writeTable tag body) s = .next (Spec.editOutcome ⟨0x36, tag, body⟩
        (s.replied ⟨0x36, tag, body⟩ .badArgument []) s)) ∧
    (1 ≤ byteAt body 3 → byteAt body 3 ≤ 64 → u16At body 1 + byteAt body 3 ≤ 257 →
      (byteAt body 0 = 0 → s.pendingBank.scene.decode.length = 257 →
        ∃ table : List Nat,
          Spec.Overwritten (u16At body 1) (byteAt body 3) (fun i => u16At body (4 + 2 * i))
            s.pendingBank.scene.decode table ∧
          exec (.writeTable tag body) s = .next (Spec.editOutcome ⟨0x36, tag, body⟩
            ((s.withPendingScene { s.pendingBank.scene with decode := table }).replied
              ⟨0x36, tag, body⟩ .ok []) s)) ∧
      ∀ k : Output, byteAt body 0 = k.val + 1 → (s.pendingBank.scene.outs.get k).encode.length = 257 →
        ∃ (table : List Nat) (st : Status),
          Spec.Overwritten (u16At body 1) (byteAt body 3) (fun i => min 4095 (u16At body (4 + 2 * i)))
            (s.pendingBank.scene.outs.get k).encode table ∧
          (st = .ok ∨ st = .clamped) ∧
          (st = .clamped ↔ ∃ i < byteAt body 3, 4095 < u16At body (4 + 2 * i)) ∧
          exec (.writeTable tag body) s = .next (Spec.editOutcome ⟨0x36, tag, body⟩
            ((s.withPendingScene (s.pendingBank.scene.withOutput k
              { s.pendingBank.scene.outs.get k with encode := table })).replied
                ⟨0x36, tag, body⟩ st []) s))

/-- R66, R89: WRITE_COVERAGE and WRITE_TONE write the whole record of one output of the pending bank,
each value limited to its range; an output number past 3 is refused with BAD_ARGUMENT. -/
def Obligations.WriteCoverageAndToneWriteTheRecord : Prop :=
  ∀ (s : State) (tag : Byte) (body : List Byte), s.Free →
    (body.length = 17 →
      (3 < byteAt body 0 → exec (.writeCoverage tag body) s = .next (Spec.editOutcome ⟨0x34, tag, body⟩
        (s.replied ⟨0x34, tag, body⟩ .badArgument []) s)) ∧
      ∀ k : Output, byteAt body 0 = k.val → ∃ st : Status,
        (st = .ok ∨ st = .clamped) ∧
        (st = .clamped ↔ 4096 < u16At body 1 ∨ 4096 < u16At body 3 ∨ 2304 < u16At body 5 ∨
          2304 < u16At body 7 ∨ 2048 < u16At body 9 ∨ 2048 < u16At body 11 ∨ 2048 < u16At body 13 ∨
          2048 < u16At body 15) ∧
        exec (.writeCoverage tag body) s = .next (Spec.editOutcome ⟨0x34, tag, body⟩
          ((s.withPendingScene (s.pendingBank.scene.withOutput k
            { s.pendingBank.scene.outs.get k with coverage :=
              ⟨min 4096 (u16At body 1), min 4096 (u16At body 3), min 2304 (u16At body 5),
               min 2304 (u16At body 7), min 2048 (u16At body 9), min 2048 (u16At body 11),
               min 2048 (u16At body 13), min 2048 (u16At body 15)⟩ })).replied
                ⟨0x34, tag, body⟩ st []) s)) ∧
    (body.length = 13 →
      (3 < byteAt body 0 → exec (.writeTone tag body) s = .next (Spec.editOutcome ⟨0x35, tag, body⟩
        (s.replied ⟨0x35, tag, body⟩ .badArgument []) s)) ∧
      ∀ k : Output, byteAt body 0 = k.val → ∃ st : Status,
        (st = .ok ∨ st = .clamped) ∧
        (st = .clamped ↔ 8191 < u16At body 1 ∨ 8191 < u16At body 3 ∨ 8191 < u16At body 5 ∨
          1023 < u16At body 7 ∨ 1023 < u16At body 9 ∨ 1023 < u16At body 11) ∧
        exec (.writeTone tag body) s = .next (Spec.editOutcome ⟨0x35, tag, body⟩
          ((s.withPendingScene (s.pendingBank.scene.withOutput k
            { s.pendingBank.scene.outs.get k with tone :=
              ⟨⟨min 8191 (u16At body 1), min 8191 (u16At body 3), min 8191 (u16At body 5)⟩,
               ⟨min 1023 (u16At body 7), min 1023 (u16At body 9), min 1023 (u16At body 11)⟩⟩ })).replied
                ⟨0x35, tag, body⟩ st []) s))

/-- R48: READ_MESH, taken outside STARTUP, returns the pitch and 1 to 64 records of one output of either
bank, and changes no state the manual names (the free-value counter advances, log 15); a selector,
output, count or index out of range is refused with BAD_ARGUMENT. -/
def Obligations.ReadMeshReturnsTheRecords : Prop :=
  ∀ (s : State) (tag : Byte) (body : List Byte), s.Free → body.length = 5 →
    (1 < byteAt body 0 ∨ 3 < byteAt body 1 ∨ byteAt body 4 < 1 ∨ 64 < byteAt body 4 ∨
        1200 < u16At body 2 + byteAt body 4 →
      exec (.readMesh tag body) s = .next (s.unlessStarting ⟨0x33, tag, body⟩
        (s.replied ⟨0x33, tag, body⟩ .badArgument []))) ∧
    ∀ (pending : Bool) (k : Output), byteAt body 0 = (if pending then 1 else 0) →
      byteAt body 1 = k.val → 1 ≤ byteAt body 4 → byteAt body 4 ≤ 64 →
      u16At body 2 + byteAt body 4 ≤ 1200 →
      exec (.readMesh tag body) s = .next (s.unlessStarting ⟨0x33, tag, body⟩
        (({ s with free := s.free + 1 } : State).replied ⟨0x33, tag, body⟩ .ok
          (b8 ((s.readBank pending).scene.outs.get k).pitch ++ b16 (u16At body 2) ++ b8 (byteAt body 4) ++
            (((((s.readBank pending).scene.outs.get k).points.drop (u16At body 2)).take
              (byteAt body 4)).map Point.bytes).flatten)))

/-- One of the two values that a field under a copy or load can read. -/
def Spec.Either {α : Type} (x old new : α) : Prop := x = old ∨ x = new

/-- R48, R135: what a read finds: the active bank; the pending bank, which in SYNCING and LOADING reads,
field by field, as the old value or the new one, and as nothing else. The degrade flags are copied in
SYNCING, and in LOADING stay the old ones until the completion derives them (log 15, DEDUCED). -/
def Obligations.ReadsFindOldOrNewValues : Prop :=
  ∀ s : State,
    s.readBank false = s.active ∧
    (s.banks.pendState = .editable ∨ s.banks.pendState = .armed → s.readBank true = s.pendingBank) ∧
    ∀ (new : Scene) (flags : Four (List Bool)),
      (s.banks.pendState = .syncing ∧ new = s.active.scene ∧ flags = s.active.flags ∨
        s.banks.pendState = .loading ∧ flags = s.pendingBank.flags ∧ ∃ n arm p,
          s.profiles.ctl = .loading n arm ∧ (s.profiles.area n).profile? = some p ∧ new = p.scene) →
      ∃ found : Scene, found = (s.readBank true).scene ∧
      Spec.Either found.canvasW s.pendingBank.scene.canvasW new.canvasW ∧
      Spec.Either found.canvasH s.pendingBank.scene.canvasH new.canvasH ∧
      Spec.Either found.rasterW s.pendingBank.scene.rasterW new.rasterW ∧
      Spec.Either found.rasterH s.pendingBank.scene.rasterH new.rasterH ∧
      Spec.Either found.ceiling s.pendingBank.scene.ceiling new.ceiling ∧
      (∀ i : Nat, Spec.Either (found.decode[i]?) (s.pendingBank.scene.decode[i]?) (new.decode[i]?)) ∧
      ∀ (k : Output) (x o n : OutputScene), x = found.outs.get k → o = s.pendingBank.scene.outs.get k →
        n = new.outs.get k →
        Spec.Either x.pitch o.pitch n.pitch ∧
        (∀ i : Nat, Spec.Either (x.points[i]?) (o.points[i]?) (n.points[i]?)) ∧
        Spec.Either x.coverage.left o.coverage.left n.coverage.left ∧
        Spec.Either x.coverage.right o.coverage.right n.coverage.right ∧
        Spec.Either x.coverage.top o.coverage.top n.coverage.top ∧
        Spec.Either x.coverage.bottom o.coverage.bottom n.coverage.bottom ∧
        Spec.Either x.coverage.fLeft o.coverage.fLeft n.coverage.fLeft ∧
        Spec.Either x.coverage.fRight o.coverage.fRight n.coverage.fRight ∧
        Spec.Either x.coverage.fTop o.coverage.fTop n.coverage.fTop ∧
        Spec.Either x.coverage.fBottom o.coverage.fBottom n.coverage.fBottom ∧
        Spec.Either x.tone.gain.r o.tone.gain.r n.tone.gain.r ∧
        Spec.Either x.tone.gain.g o.tone.gain.g n.tone.gain.g ∧
        Spec.Either x.tone.gain.b o.tone.gain.b n.tone.gain.b ∧
        Spec.Either x.tone.floor.r o.tone.floor.r n.tone.floor.r ∧
        Spec.Either x.tone.floor.g o.tone.floor.g n.tone.floor.g ∧
        Spec.Either x.tone.floor.b o.tone.floor.b n.tone.floor.b ∧
        (∀ i : Nat, Spec.Either (x.encode[i]?) (o.encode[i]?) (n.encode[i]?)) ∧
        ∀ i : Nat, Spec.Either (((s.readBank true).flags.get k)[i]?) ((s.pendingBank.flags.get k)[i]?)
          ((flags.get k)[i]?)

/-- R135, R178: READ_BANK_INFO returns one item of either bank and changes no state the manual names (the
free-value counter advances, log 15); a selector, number or count out of range is refused with
BAD_ARGUMENT. -/
def Obligations.ReadBankInfoReturnsOneItem : Prop :=
  ∀ (s : State) (tag : Byte) (body : List Byte), s.Free → catalogueFits 0x3B body = true →
    (1 < byteAt body 0 ∨ 3 < byteAt body 1 ∨
        ((byteAt body 1 = 1 ∨ byteAt body 1 = 2) ∧ 3 < byteAt body 2) ∨
        (byteAt body 1 = 3 ∧ (4 < byteAt body 2 ∨ byteAt body 5 < 1 ∨ 64 < byteAt body 5 ∨
          257 < u16At body 3 + byteAt body 5)) →
      exec (.readBankInfo tag body) s = .next (s.unlessStarting ⟨0x3B, tag, body⟩
        (s.replied ⟨0x3B, tag, body⟩ .badArgument []))) ∧
    ∀ pending : Bool, byteAt body 0 = (if pending then 1 else 0) → ∀ report : List Byte,
      ((byteAt body 1 = 0 ∧ report =
          b16 s.banks.revision.toNat ++ b8 s.banks.pendState.code ++
          b16 (s.readBank pending).scene.canvasW ++ b16 (s.readBank pending).scene.canvasH ++
          b16 (s.readBank pending).scene.rasterW ++ b16 (s.readBank pending).scene.rasterH ++
          b8 (s.readBank pending).scene.ceiling ++
          (outputs.map fun k => b8 ((s.readBank pending).scene.outs.get k).pitch).flatten ++
          (outputs.map fun k => b16 ((s.readBank pending).flaggedCells k)).flatten) ∨
        (byteAt body 1 = 1 ∧ ∃ k : Output, byteAt body 2 = k.val ∧
          report = ((s.readBank pending).scene.outs.get k).coverage.bytes) ∨
        (byteAt body 1 = 2 ∧ ∃ k : Output, byteAt body 2 = k.val ∧
          report = ((s.readBank pending).scene.outs.get k).tone.bytes) ∨
        (byteAt body 1 = 3 ∧ 1 ≤ byteAt body 5 ∧ byteAt body 5 ≤ 64 ∧
          u16At body 3 + byteAt body 5 ≤ 257 ∧
          ∃ table : List Nat,
            (byteAt body 2 = 0 ∧ table = (s.readBank pending).scene.decode ∨
              ∃ k : Output, byteAt body 2 = k.val + 1 ∧
                table = ((s.readBank pending).scene.outs.get k).encode) ∧
            report = (((table.drop (u16At body 3)).take (byteAt body 5)).map b16).flatten)) →
      exec (.readBankInfo tag body) s = .next (s.unlessStarting ⟨0x3B, tag, body⟩
        (({ s with free := s.free + 1 } : State).replied ⟨0x3B, tag, body⟩ .ok report))

/-- R44: the records that output `k`'s layout uses. -/
def Spec.layoutRecords (sc : Scene) (k : Output) : Nat :=
  ((sc.rasterW - 1 + (sc.outs.get k).pitch - 1) / (sc.outs.get k).pitch + 1) *
    ((sc.rasterH - 1 + (sc.outs.get k).pitch - 1) / (sc.outs.get k).pitch + 1)

/-- R67: COVERAGE_BOUNDS fails. -/
def Spec.outOfBounds (sc : Scene) (k : Output) : Prop :=
  (sc.outs.get k).coverage.right ≤ (sc.outs.get k).coverage.left ∨
  (sc.outs.get k).coverage.bottom ≤ (sc.outs.get k).coverage.top ∨
  sc.canvasW < (sc.outs.get k).coverage.right ∨ sc.canvasH < (sc.outs.get k).coverage.bottom

/-- R67: FEATHER_SUM fails. -/
def Spec.feathersTooWide (sc : Scene) (k : Output) : Prop :=
  (sc.outs.get k).coverage.right - (sc.outs.get k).coverage.left <
    (sc.outs.get k).coverage.fLeft + (sc.outs.get k).coverage.fRight ∨
  (sc.outs.get k).coverage.bottom - (sc.outs.get k).coverage.top <
    (sc.outs.get k).coverage.fTop + (sc.outs.get k).coverage.fBottom

/-- R84: entry `i` of the decode table is smaller than the entry before it. -/
def Spec.falls (sc : Scene) (i : Nat) : Prop :=
  1 ≤ i ∧ i < sc.decode.length ∧ sc.decode.getD i 0 < sc.decode.getD (i - 1) 0

/-- R137: the first failure of the four checks, in their order and the outputs' order, as the body of an
INVALID reply. -/
inductive Spec.Fails (sc : Scene) : List Byte → Prop
  | mesh (k : Output) : 1200 < Spec.layoutRecords sc k → (∀ j < k, Spec.layoutRecords sc j ≤ 1200) →
      Fails sc (b8 0 ++ b8 k.val ++ b16 (Spec.layoutRecords sc k))
  | bounds (k : Output) : (∀ j, Spec.layoutRecords sc j ≤ 1200) → Spec.outOfBounds sc k →
      (∀ j < k, ¬ Spec.outOfBounds sc j) → Fails sc (b8 1 ++ b8 k.val ++ b16 0)
  | feathers (k : Output) : (∀ j, Spec.layoutRecords sc j ≤ 1200) → (∀ j, ¬ Spec.outOfBounds sc j) →
      Spec.feathersTooWide sc k → (∀ j < k, ¬ Spec.feathersTooWide sc j) →
      Fails sc (b8 2 ++ b8 k.val ++ b16 0)
  | order (i : Nat) : (∀ j, Spec.layoutRecords sc j ≤ 1200) → (∀ j, ¬ Spec.outOfBounds sc j) →
      (∀ j, ¬ Spec.feathersTooWide sc j) → Spec.falls sc i → (∀ j < i, ¬ Spec.falls sc j) →
      Fails sc (b8 3 ++ b8 0xFF ++ b16 i)

/-- R137: every check passes. -/
def Spec.Passes (sc : Scene) : Prop :=
  ∀ k : Output, Spec.layoutRecords sc k ≤ 1200 ∧ ¬ Spec.outOfBounds sc k ∧ ¬ Spec.feathersTooWide sc k ∧
    ∀ i, ¬ Spec.falls sc i

/-- R136 to R138: COMMIT of a scene that passes derives its degrade flags, arms it and reports the
flagged cells of each output; of one that fails it is refused with INVALID and the first failure, and
nothing changes. A scene passes exactly when it is `valid`. -/
def Obligations.CommitChecksAndArms : Prop :=
  ∀ (s : State) (tag : Byte), s.Free →
    (Spec.Passes s.pendingBank.scene →
      exec (.commit tag []) s = .next (Spec.editOutcome ⟨0x38, tag, []⟩
        (({ s with banks := { s.banks.setPending s.pendingBank.scene.derived with
            pendState := .armed } } : State).replied ⟨0x38, tag, []⟩ .ok
          (outputs.map fun k => b16 (s.pendingBank.scene.derived.flaggedCells k)).flatten) s)) ∧
    (∀ report, Spec.Fails s.pendingBank.scene report →
      exec (.commit tag []) s = .next (Spec.editOutcome ⟨0x38, tag, []⟩
        (s.replied ⟨0x38, tag, []⟩ .invalid report) s)) ∧
    (Spec.Passes s.pendingBank.scene ∨ ∃ report, Spec.Fails s.pendingBank.scene report) ∧
    (Spec.Passes s.pendingBank.scene ↔ s.pendingBank.scene.valid = true)

/-- R62, R43: flag n of an output's derived mesh is set exactly when n numbers a cell of the layout one of
whose four edges spans more than 32 P sixteenths in x or in y. -/
def Obligations.DerivedFlagsMarkLongEdges : Prop :=
  ∀ (sc : Scene) (k : Output) (i j : Nat), i + 1 < sc.cols k → j + 1 < sc.rows k →
    j * (sc.cols k - 1) + i < 1200 →
    (sc.derived.flagOf k (j * (sc.cols k - 1) + i) = true ↔
      ∃ a b c d : Nat, (a, b, c, d) ∈ [(0, 0, 1, 0), (0, 1, 1, 1), (0, 0, 0, 1), (1, 0, 1, 1)] ∧
        ((32 * (sc.outs.get k).pitch : Int) <
            |(sc.corner k (i + a) (j + b)).sx - (sc.corner k (i + c) (j + d)).sx| ∨
          (32 * (sc.outs.get k).pitch : Int) <
            |(sc.corner k (i + a) (j + b)).sy - (sc.corner k (i + c) (j + d)).sy|))

/-- R139, R140, R149, R150: DISARM and REVERT by pending state, and the end of a copy-back: the pending
bank equals the active one, flags included, and BANK_READY is posted. That a completion outside SYNCING
changes nothing is the model's (log 4, DESIGN CHOICE). -/
def Obligations.DisarmRevertAndCopyBack : Prop :=
  ∀ (s : State) (tag : Byte),
    (s.Free → exec (.disarm tag []) s = .next (s.unlessStarting ⟨0x39, tag, []⟩
      (match s.banks.pendState with
        | .armed => ({ s with banks := { s.banks with pendState := .editable } } : State).replied
            ⟨0x39, tag, []⟩ .ok []
        | .editable => s.replied ⟨0x39, tag, []⟩ .wrongState []
        | _ => s.replied ⟨0x39, tag, []⟩ .busy []))) ∧
    (s.Free → exec (.revert tag []) s = .next (s.unlessStarting ⟨0x3A, tag, []⟩
      (match s.banks.pendState with
        | .editable => ({ s with banks := { s.banks with pendState := .syncing } } : State).replied
            ⟨0x3A, tag, []⟩ .ok []
        | .armed => s.replied ⟨0x3A, tag, []⟩ .armed []
        | _ => s.replied ⟨0x3A, tag, []⟩ .busy []))) ∧
    (s.banks.pendState = .syncing → ∃ t,
      exec .copyBackCompletion s = .next t ∧
      t = { s with banks := t.banks, ind := s.ind.posted .bankReady s.timer.counter } ∧
      t.banks.pendState = .editable ∧ t.pendingBank = s.active ∧ t.active = s.active ∧
      t.banks.revision = s.banks.revision ∧ t.banks.activeIsOne = s.banks.activeIsOne) ∧
    (s.banks.pendState ≠ .syncing → exec .copyBackCompletion s = .next s)

/-! ### Probe requests (Chapter 5) -/

/-- R96, R101: PROBE in its order of refusals, taken into WAITING; PROBE_READ by the probe state, changing
nothing. -/
def Obligations.ProbeRequestsFollowTheProbeState : Prop :=
  ∀ (s : State) (tag : Byte) (body : List Byte), s.Free → body.length = 5 →
    (s.mode.mode = .standby →
      exec (.probe tag body) s = .next (s.replied ⟨0x40, tag, body⟩ .wrongState [])) ∧
    (s.mode.mode ≠ .standby →
      (3 < byteAt body 0 ∨ s.active.scene.rasterW ≤ u16At body 1 ∨
          s.active.scene.rasterH ≤ u16At body 3 →
        exec (.probe tag body) s = .next (s.unlessStarting ⟨0x40, tag, body⟩
          (s.replied ⟨0x40, tag, body⟩ .badArgument []))) ∧
      ∀ k : Output, byteAt body 0 = k.val → u16At body 1 < s.active.scene.rasterW →
        u16At body 3 < s.active.scene.rasterH →
        exec (.probe tag body) s = .next (s.unlessStarting ⟨0x40, tag, body⟩
          (match s.probe with
            | .waiting _ _ _ => s.replied ⟨0x40, tag, body⟩ .busy []
            | _ => ({ s with probe := .waiting k (u16At body 1) (u16At body 3) } : State).replied
                ⟨0x40, tag, body⟩ .ok []))) ∧
    exec (.probeRead tag []) s = .next (s.unlessStarting ⟨0x41, tag, []⟩
      (match s.probe with
        | .ready result => s.replied ⟨0x41, tag, []⟩ .ok result.bytes
        | .waiting _ _ _ => s.replied ⟨0x41, tag, []⟩ .busy []
        | .idle => s.replied ⟨0x41, tag, []⟩ .wrongState []))

/-! ### Profile requests and completions (Chapter 8) -/

/-- What a profile request leads to by part mode and controller state (R155). -/
def Spec.profileOutcome (f : Frame) (taken s : State) : State := s.unlessStarting f (s.whenIdle f taken)

/-- R155, R157, R160: PROFILE_LOAD and PROFILE_ERASE in their order of checks; a taken load makes the
controller and the pending bank LOADING, a taken erase begins to blank the area; nothing else changes. -/
def Obligations.ProfileLoadAndEraseAreCheckedInOrder : Prop :=
  ∀ (s : State) (tag a b : Byte), s.Free →
    (7 < a.toNat ∨ 1 < b.toNat →
      exec (.profileLoad tag [a, b]) s = .next (Spec.profileOutcome ⟨0x50, tag, [a, b]⟩
        (s.replied ⟨0x50, tag, [a, b]⟩ .badArgument []) s)) ∧
    (7 < a.toNat →
      exec (.profileErase tag [a]) s = .next (Spec.profileOutcome ⟨0x52, tag, [a]⟩
        (s.replied ⟨0x52, tag, [a]⟩ .badArgument []) s)) ∧
    ∀ n : ProfileNo, a.toNat = n.val →
      (b.toNat ≤ 1 →
        exec (.profileLoad tag [a, b]) s = .next (Spec.profileOutcome ⟨0x50, tag, [a, b]⟩
          (match (s.profiles.entry n).held with
            | none => s.replied ⟨0x50, tag, [a, b]⟩ .noProfile []
            | some (false, _) => s.replied ⟨0x50, tag, [a, b]⟩ .unsound []
            | some (true, _) =>
              match s.banks.pendState with
              | .editable => ({ s with
                  banks := { s.banks with pendState := .loading }
                  profiles := { s.profiles with ctl := .loading n (decide (b.toNat = 1)) } } : State).replied
                    ⟨0x50, tag, [a, b]⟩ .ok []
              | .armed => s.replied ⟨0x50, tag, [a, b]⟩ .armed []
              | _ => s.replied ⟨0x50, tag, [a, b]⟩ .busy []) s)) ∧
      exec (.profileErase tag [a]) s = .next (Spec.profileOutcome ⟨0x52, tag, [a]⟩
        (match (s.profiles.entry n).held with
          | none => s.replied ⟨0x52, tag, [a]⟩ .noProfile []
          | some _ => ({ s with profiles := { s.profiles with
              ctl := .erasing n (s.profiles.area n).blankingOf false
              flash := { s.profiles.flash with
                areas := s.profiles.flash.areas.set n.val (s.profiles.area n).blankingOf } } } : State).replied
                  ⟨0x52, tag, [a]⟩ .ok []) s)

/-- R158, R125: what a store captures. -/
def Spec.captured (label : List Byte) (s : State) : Profile where
  scene := s.active.scene
  input := s.acq.controls
  outs := s.chans.map fun c =>
    ⟨c.controls, decide (c.state = .acquiring ∨ c.state = .active ∨ c.state = .lost ∨ c.state = .parked)⟩
  revision := s.banks.revision
  label := label

/-- R158: PROFILE_STORE in its order of checks; a taken store captures the active bank, the input
controls, and each output's controls and enable, and begins to write the area. -/
def Obligations.ProfileStoreCapturesTheScene : Prop :=
  ∀ (s : State) (tag a lo hi len : Byte) (label : List Byte), s.Free → label.length = len.toNat →
    (7 < a.toNat ∨ 16 < label.length ∨ (∃ c ∈ label, c.toNat < 0x20 ∨ 0x7E < c.toNat) →
      exec (.profileStore tag (a :: lo :: hi :: len :: label)) s =
        .next (Spec.profileOutcome ⟨0x51, tag, a :: lo :: hi :: len :: label⟩
          (s.replied ⟨0x51, tag, a :: lo :: hi :: len :: label⟩ .badArgument []) s)) ∧
    ∀ n : ProfileNo, a.toNat = n.val → label.length ≤ 16 →
      (∀ c ∈ label, 0x20 ≤ c.toNat ∧ c.toNat ≤ 0x7E) →
      exec (.profileStore tag (a :: lo :: hi :: len :: label)) s =
        .next (Spec.profileOutcome ⟨0x51, tag, a :: lo :: hi :: len :: label⟩
          (if s.mode.mode = .setup ∨
              (s.mode.mode = .dimming ∨ s.mode.mode = .standby) ∧ s.mode.remembered = .setup then
            s.replied ⟨0x51, tag, a :: lo :: hi :: len :: label⟩ .wrongState []
          else if lo.toNat + 256 * hi.toNat ≠ s.banks.revision.toNat then
            s.replied ⟨0x51, tag, a :: lo :: hi :: len :: label⟩ .stale []
          else
            ({ s with profiles := { s.profiles with
                ctl := .storing n (Spec.captured label s) false
                flash := { s.profiles.flash with
                  areas := s.profiles.flash.areas.set n.val (.torn (Spec.captured label s)) } } } : State).replied
              ⟨0x51, tag, a :: lo :: hi :: len :: label⟩ .ok []) s)

/-- R161, R155, R154: PROFILE_SET_BOOT in its order of checks, in every part mode and controller state: BUSY
while another operation runs. A taken request begins to write the older directory copy, and leaves the
newer one, the directory image and the areas as they were. -/
def Obligations.ProfileSetBootBeginsADirectoryWrite : Prop :=
  ∀ (s : State) (tag a : Byte), s.Free →
    (s.mode.mode ≠ .startup → s.profiles.ctl ≠ .idle → s.profiles.ctl ≠ .scanning →
      exec (.profileSetBoot tag [a]) s = .next (s.replied ⟨0x53, tag, [a]⟩ .busy [])) ∧
    (7 < a.toNat → a ≠ 0xFF →
      exec (.profileSetBoot tag [a]) s = .next (Spec.profileOutcome ⟨0x53, tag, [a]⟩
        (s.replied ⟨0x53, tag, [a]⟩ .badArgument []) s)) ∧
    (∀ n : ProfileNo, a.toNat = n.val → (s.profiles.entry n).held = none →
      exec (.profileSetBoot tag [a]) s = .next (Spec.profileOutcome ⟨0x53, tag, [a]⟩
        (s.replied ⟨0x53, tag, [a]⟩ .noProfile []) s)) ∧
    (∀ (n : ProfileNo) (h : Header), a.toNat = n.val → (s.profiles.entry n).held = some (false, h) →
      exec (.profileSetBoot tag [a]) s = .next (Spec.profileOutcome ⟨0x53, tag, [a]⟩
        (s.replied ⟨0x53, tag, [a]⟩ .unsound []) s)) ∧
    ∀ choice : Option ProfileNo,
      (a = 0xFF ∧ choice = none ∨ ∃ (n : ProfileNo) (h : Header), a.toNat = n.val ∧ choice = some n ∧
        (s.profiles.entry n).held = some (true, h)) →
      ∃ p : ProfileStore,
        exec (.profileSetBoot tag [a]) s = .next (Spec.profileOutcome ⟨0x53, tag, [a]⟩
          (({ s with profiles := p } : State).replied ⟨0x53, tag, [a]⟩ .ok []) s) ∧
        p.ctl = .writingDirectory choice ∧ p.entries = s.profiles.entries ∧ p.boot = s.profiles.boot ∧
        p.flash.areas = s.profiles.flash.areas ∧
        (∀ (c : Bool) (d : Directory), s.profiles.newer = some (c, d) →
          (if c then p.flash.copy1 else p.flash.copy0) =
            (if c then s.profiles.flash.copy1 else s.profiles.flash.copy0) ∧
          (if c then p.flash.copy0 else p.flash.copy1) = .torn) ∧
        (s.profiles.newer = none → p.flash.copy0 = .torn ∧ p.flash.copy1 = s.profiles.flash.copy1)

/-- R156, R178: PROFILE_LIST is taken in every part mode and controller state, reports 204 bytes, and
changes no state the manual names (the free-value counter advances, log 14). That no profile is in work while
SCANNING is the model's (log 39, DESIGN CHOICE). -/
def Obligations.ProfileListReportsTheDirectory : Prop :=
  ∀ (s : State) (tag : Byte), s.Free → ∃ body : List Byte,
    exec (.profileList tag []) s =
      .next (({ s with free := s.free + 1 } : State).replied ⟨0x54, tag, []⟩ .ok body) ∧
    body.length = 204 ∧ byteAt body 0 = s.profiles.ctl.code ∧
    (∀ (n : ProfileNo) (arm : Bool), s.profiles.ctl = .loading n arm → byteAt body 1 = n.val) ∧
    (∀ (n : ProfileNo) (p : Profile) (d : Bool), s.profiles.ctl = .storing n p d → byteAt body 1 = n.val) ∧
    (∀ (n : ProfileNo) (r : Area) (d : Bool), s.profiles.ctl = .erasing n r d → byteAt body 1 = n.val) ∧
    (s.profiles.ctl = .idle ∨ s.profiles.ctl = .scanning → byteAt body 1 = 0xFF) ∧
    byteAt body 2 = (match s.profiles.boot with | none => 0xFF | some n => n.val) ∧
    byteAt body 3 = (if s.profiles.ctl = .scanning then s.profiles.examined % 256 else 8) ∧
    ∀ n : ProfileNo,
      byteAt body (7 + 25 * n.val) = (s.profiles.entry n).writeCount % 256 ∧
      ((s.profiles.entry n).held = none →
        byteAt body (4 + 25 * n.val) = 0 ∧ byteAt body (12 + 25 * n.val) = 0) ∧
      ∀ (sound : Bool) (h : Header), (s.profiles.entry n).held = some (sound, h) →
        byteAt body (4 + 25 * n.val) = (if sound then 1 else 2) ∧
        u16At body (5 + 25 * n.val) = h.revision.toNat ∧
        u16At body (8 + 25 * n.val) = h.canvasW % 65536 ∧
        u16At body (10 + 25 * n.val) = h.canvasH % 65536 ∧
        byteAt body (12 + 25 * n.val) = h.label.length % 256 ∧
        ∀ i < 16, byteAt body (13 + 25 * n.val + i) = (h.label.getD i 0).toNat

/-- The indications after PROFILE_DONE, and PROFILE_BAD where `bad`. -/
def Spec.doneInd (n : Option ProfileNo) (op : ProfileOp) (r : ProfileResult) (bad : Bool) (s : State) :
    Indications :=
  Indications.posted (.profileDone n op r) s.timer.counter
    { s.ind with flags := { s.ind.flags with profileBad := s.ind.flags.profileBad || bad } }

/-- R157, R151, R63: the end of a load. A good check: the pending bank takes the profile's scene with its
flags derived, ARMED or EDITABLE by the arm option. A bad one: the profile becomes UNSOUND, the pending
bank SYNCING, PROFILE_BAD is set; the boot choice, the active bank and the revision stay. -/
def Obligations.LoadCompletionFillsThePendingBank : Prop :=
  ∀ (s : State) (n : ProfileNo) (arm : Bool) (p : Profile), s.profiles.ctl = .loading n arm →
    (s.profiles.area n).profile? = some p →
    exec (.loadCompletion true) s = .next { s with
      profiles := { s.profiles with ctl := .idle }
      banks := { s.banks.setPending p.scene.derived with pendState := if arm then .armed else .editable }
      ind := Spec.doneInd (some n) .load .ok false s } ∧
    ∃ t, exec (.loadCompletion false) s = .next t ∧
      t.banks.pendState = .syncing ∧ t.active = s.active ∧ t.banks.revision = s.banks.revision ∧
      t.profiles.ctl = .idle ∧ t.profiles.boot = s.profiles.boot ∧ t.profiles.flash = s.profiles.flash ∧
      (∀ (b : Bool) (h : Header), (s.profiles.entry n).held = some (b, h) → s.profiles.entries.length = 8 →
        t.profiles.entry n = ⟨some (false, h), (s.profiles.entry n).writeCount⟩) ∧
      (∀ m, m ≠ n → t.profiles.entry m = s.profiles.entry m) ∧
      t.ind = Spec.doneInd (some n) .load .badCheck true s ∧
      t = { s with banks := t.banks, profiles := t.profiles, ind := t.ind, free := t.free }

/-- R154: the directory after a directory write that succeeded, or that failed, with this boot choice and
these counts: the older copy takes the generation one above the newer one's, or copy 0 generation 1 where
neither passes, and is then the newer one; the other copy stays. A copy whose write failed does not pass
until a later scan (log 32, DEDUCED). -/
def Spec.DirectoryWritten (written : Bool) (boot : Option ProfileNo) (counts : List Nat)
    (p q : ProfileStore) : Prop :=
  (∀ (c : Bool) (d : Directory), p.newer = some (c, d) →
    (if c then q.flash.copy1 else q.flash.copy0) = (if c then p.flash.copy1 else p.flash.copy0) ∧
    (written = true →
      (if c then q.flash.copy0 else q.flash.copy1) = .held ⟨d.generation + 1, boot, counts⟩ ∧
      q.newer = some (!c, ⟨d.generation + 1, boot, counts⟩)) ∧
    (written = false → q.newer = some (c, d))) ∧
  (p.newer = none →
    q.flash.copy1 = p.flash.copy1 ∧
    (written = true → q.flash.copy0 = .held ⟨1, boot, counts⟩ ∧ q.newer = some (false, ⟨1, boot, counts⟩)) ∧
    (written = false → q.newer = none))

/-- R159, R160, R161, R154, R162: the ends of a store, an erase and a boot choice write whose directory
write has begun, by their results: the profile's entry, the write count, the boot choice, the copy written
with its generation, boot choice and counts, and PROFILE_DONE; the other profiles' entries stay. The
directory write of a store begins once its area holds the new contents, that of an erase once its area is
blank, and leaves the newer directory copy. A store or erase whose directory write was not begun by a
command begins it at the completion (log 18, DESIGN CHOICE). What a completion or a begin does where no
such operation is in flight is the model's (log 4, DESIGN CHOICE), and so are the header an erased area
keeps that is not blank (log 34, DEDUCED) and what such an area holds (log 41, DEDUCED). -/
def Obligations.FlashOperationsUpdateTheDirectory : Prop :=
  ∀ (s : State), s.profiles.entries.length = 8 → s.profiles.flash.areas.length = 8 →
    (∀ (n : ProfileNo) (image : Profile) (verified written : Bool),
      s.profiles.ctl = .storing n image true → ∃ t,
      exec (.storeCompletion verified written) s = .next t ∧
      t.profiles.ctl = .idle ∧ t.profiles.boot = s.profiles.boot ∧
      t.profiles.entry n = ⟨some (verified, image.header),
        if written then min 255 ((s.profiles.entry n).writeCount + 1) else (s.profiles.entry n).writeCount⟩ ∧
      (∀ m, m ≠ n → t.profiles.entry m = s.profiles.entry m) ∧
      t.profiles.flash.areas = s.profiles.flash.areas ∧
      Spec.DirectoryWritten written s.profiles.boot
        ((s.profiles.entries.map Entry.writeCount).set n.val (min 255 ((s.profiles.entry n).writeCount + 1)))
        s.profiles t.profiles ∧
      t.ind = Spec.doneInd (some n) .store (if verified && written then .ok else .failed)
        (!(verified && written)) s ∧
      t = { s with profiles := t.profiles, ind := t.ind }) ∧
    (∀ (n : ProfileNo) (erased : Area) (blank written : Bool),
      s.profiles.ctl = .erasing n erased true → ∃ t,
      exec (.eraseCompletion blank written) s = .next t ∧
      t.profiles.ctl = .idle ∧
      t.profiles.boot = (if written ∧ s.profiles.boot = some n then none else s.profiles.boot) ∧
      t.profiles.entry n = ⟨if blank then none else (s.profiles.entry n).held.map fun h => (false, h.2),
        (s.profiles.entry n).writeCount⟩ ∧
      (∀ m, m ≠ n → t.profiles.entry m = s.profiles.entry m) ∧
      t.profiles.flash.areas =
        (if blank then s.profiles.flash.areas else s.profiles.flash.areas.set n.val erased.leftNotBlank) ∧
      Spec.DirectoryWritten written (if s.profiles.boot = some n then none else s.profiles.boot)
        (s.profiles.entries.map Entry.writeCount) s.profiles t.profiles ∧
      t.ind = Spec.doneInd (some n) .erase (if blank && written then .ok else .failed)
        (!(blank && written)) s ∧
      t = { s with profiles := t.profiles, ind := t.ind }) ∧
    (∀ (choice : Option ProfileNo) (written : Bool), s.profiles.ctl = .writingDirectory choice → ∃ t,
      exec (.directoryCompletion written) s = .next t ∧
      t.profiles.ctl = .idle ∧ t.profiles.boot = (if written then choice else s.profiles.boot) ∧
      t.profiles.entries = s.profiles.entries ∧ t.profiles.flash.areas = s.profiles.flash.areas ∧
      Spec.DirectoryWritten written choice (s.profiles.entries.map Entry.writeCount) s.profiles t.profiles ∧
      t.ind = Spec.doneInd choice .setBoot (if written then .ok else .failed) (!written) s ∧
      t = { s with profiles := t.profiles, ind := t.ind }) ∧
    (∀ (n : ProfileNo) (area : Area) (next : Ctl),
      ((∃ image, s.profiles.ctl = .storing n image false ∧ area = .held image ∧
          next = .storing n image true) ∨
        ∃ erased, s.profiles.ctl = .erasing n erased false ∧ area = .blank ∧
          next = .erasing n erased true) → ∃ t,
      exec .directoryWriteBegin s = .next t ∧
      t = { s with profiles := t.profiles } ∧ t.profiles.ctl = next ∧ t.profiles.area n = area ∧
      (∀ m, m ≠ n → t.profiles.area m = s.profiles.area m) ∧
      t.profiles.entries = s.profiles.entries ∧ t.profiles.boot = s.profiles.boot ∧
      t.profiles.newer = s.profiles.newer ∧
      (∀ (c : Bool) (d : Directory), s.profiles.newer = some (c, d) →
        (if c then t.profiles.flash.copy1 else t.profiles.flash.copy0) =
          (if c then s.profiles.flash.copy1 else s.profiles.flash.copy0) ∧
        (if c then t.profiles.flash.copy0 else t.profiles.flash.copy1) = .torn) ∧
      (s.profiles.newer = none →
        t.profiles.flash.copy0 = .torn ∧ t.profiles.flash.copy1 = s.profiles.flash.copy1) ∧
      ∀ done written : Bool,
        ((∃ image, s.profiles.ctl = .storing n image false) →
          exec (.storeCompletion done written) s = exec (.storeCompletion done written) t) ∧
        ((∃ erased, s.profiles.ctl = .erasing n erased false) →
          exec (.eraseCompletion done written) s = exec (.eraseCompletion done written) t)) ∧
    ((∀ n p, s.profiles.ctl ≠ .storing n p false) → (∀ n a, s.profiles.ctl ≠ .erasing n a false) →
      exec .directoryWriteBegin s = .next s) ∧
    ∀ done written : Bool,
      ((∀ n p b, s.profiles.ctl ≠ .storing n p b) → exec (.storeCompletion done written) s = .next s) ∧
      ((∀ n a b, s.profiles.ctl ≠ .erasing n a b) → exec (.eraseCompletion done written) s = .next s) ∧
      ((∀ b, s.profiles.ctl ≠ .writingDirectory b) → exec (.directoryCompletion written) s = .next s)

/-- R154: what reading area `a` gives: whether the profile is held and SOUND, and its header where the area
holds one whole, and what the area holds from then on. A reading decides, but for the scan after a cut
operation (R162): an area whose store was cut is UNSOUND there with the header of the new contents (log
12, DEDUCED), one whose blanking was cut is UNSOUND unless it reads blank. At later scans the reading
decides those too (log 41, DEDUCED). -/
inductive Spec.AreaRead : Area → AreaReading → Option (Bool × Option Header) → Area → Prop
  | blank (r : AreaReading) : AreaRead .blank r none .blank
  | heldBlank (p : Profile) : AreaRead (.held p) .blank none .blank
  | heldPasses (p : Profile) : AreaRead (.held p) .passes (some (true, some p.header)) (.held p)
  | heldFails (p : Profile) : AreaRead (.held p) .fails (some (false, some p.header)) (.held p)
  | torn (p : Profile) (r : AreaReading) : AreaRead (.torn p) r (some (false, some p.header)) (.held p)
  | blankingBlank (p : Profile) : AreaRead (.blanking p) .blank none .blank
  | blanking (p : Profile) (r : AreaReading) : r ≠ .blank →
      AreaRead (.blanking p) r (some (false, none)) (.unblanked p)
  | unblankedBlank (p : Profile) : AreaRead (.unblanked p) .blank none .blank
  | unblankedPasses (p : Profile) :
      AreaRead (.unblanked p) .passes (some (true, some p.header)) (.held p)
  | unblankedFails (p : Profile) : AreaRead (.unblanked p) .fails (some (false, none)) (.unblanked p)

/-- R154: the copy that the scan takes, by the checks of the two copies; none where neither passes. -/
inductive Spec.ScanTakes (f : Flash) (pass0 pass1 : Bool) : Option Directory → Prop
  | copy0Newer (d0 d1 : Directory) : pass0 = true → pass1 = true → f.copy0 = .held d0 → f.copy1 = .held d1 →
      (d0.generation = d1.generation + 1 ∨ d1.generation ≠ d0.generation + 1) →
      ScanTakes f pass0 pass1 (some d0)
  | copy1Newer (d0 d1 : Directory) : pass0 = true → pass1 = true → f.copy0 = .held d0 → f.copy1 = .held d1 →
      d1.generation = d0.generation + 1 → d0.generation ≠ d1.generation + 1 →
      ScanTakes f pass0 pass1 (some d1)
  | only0 (d : Directory) : pass0 = true → f.copy0 = .held d → (pass1 = false ∨ ∀ e, f.copy1 ≠ .held e) →
      ScanTakes f pass0 pass1 (some d)
  | only1 (d : Directory) : pass1 = true → f.copy1 = .held d → (pass0 = false ∨ ∀ e, f.copy0 ≠ .held e) →
      ScanTakes f pass0 pass1 (some d)
  | neither : (pass0 = false ∨ ∀ e, f.copy0 ≠ .held e) → (pass1 = false ∨ ∀ e, f.copy1 ≠ .held e) →
      ScanTakes f pass0 pass1 none

/-- R154, R156: the scan reads the directory, then the areas one by one: a blank area reads EMPTY, one
whose check passes SOUND, any other UNSOUND with PROFILE_BAD; the counts and the boot choice are those of
the newer copy that passes, and where neither does, zeros and NONE, with PROFILE_BAD unless both copies are
blank. The order of the parts is the sender's (log 17, DESIGN CHOICE); the readings of an area after a cut
operation are those of `Spec.AreaRead` (R162, log 12 and 41, DEDUCED). That a copy whose write a reset cut
is not blank is the model's (log 42, DESIGN CHOICE). -/
def Obligations.ScanReadsTheFlash : Prop :=
  ∀ s : State, s.profiles.ctl = .scanning → s.profiles.entries.length = 8 →
    s.profiles.flash.areas.length = 8 →
    (∀ (n : ProfileNo) (r : AreaReading), s.profiles.examined = n.val → ∃ t found,
      exec (.profileAreaExamined (.area r)) s = .next t ∧
      Spec.AreaRead (s.profiles.area n) r found (t.profiles.area n) ∧
      t.profiles.examined = n.val + 1 ∧ t.profiles.ctl = .scanning ∧
      t.profiles.boot = s.profiles.boot ∧
      (∀ m, m ≠ n → t.profiles.entry m = s.profiles.entry m ∧ t.profiles.area m = s.profiles.area m) ∧
      t.profiles.flash.copy0 = s.profiles.flash.copy0 ∧ t.profiles.flash.copy1 = s.profiles.flash.copy1 ∧
      (t.profiles.entry n).writeCount = s.profiles.scanCounts.getD n.val 0 ∧
      (t.profiles.entry n).sound? = found.map Prod.fst ∧
      (∀ sound h, found = some (sound, some h) → (t.profiles.entry n).held = some (sound, h)) ∧
      t.ind = (if found.map Prod.fst = some false then
        { s.ind with flags := { s.ind.flags with profileBad := true } } else s.ind) ∧
      t = { s with profiles := t.profiles, ind := t.ind, free := t.free }) ∧
    (∀ pass0 pass1 : Bool, s.profiles.dirRead = false → s.profiles.examined = 0 → ∃ t taken,
      exec (.profileAreaExamined (.directory pass0 pass1)) s = .next t ∧ t.profiles.dirRead = true ∧
      Spec.ScanTakes s.profiles.flash pass0 pass1 taken ∧
      t.profiles.entries = s.profiles.entries ∧ t.profiles.flash = s.profiles.flash ∧
      t.profiles.ctl = .scanning ∧ t.profiles.examined = 0 ∧
      (∀ d, taken = some d →
        t.profiles.boot = d.boot ∧ t.profiles.scanCounts = d.counts ∧ t.ind = s.ind) ∧
      (taken = none → t.profiles.boot = none ∧ t.profiles.scanCounts = List.replicate 8 0 ∧
        t.ind = (if s.profiles.flash.copy0 = .blank ∧ s.profiles.flash.copy1 = .blank then s.ind
          else { s.ind with flags := { s.ind.flags with profileBad := true } })) ∧
      t = { s with profiles := t.profiles, ind := t.ind })

/-- R184, R181: among the records that an event adds to the queue, those that `which` takes, all of the
kind with code `kind`, are `bodies`, each with frame stamp `stamp`, and none where the mask masks the kind
(R186). The event finds room for every record. -/
def Spec.Posts (stamp : BitVec 32) (kind : Nat) (which : IndBody → Bool) (bodies : List IndBody)
    (s t : State) : Prop :=
  s.ind.queue.length ≤ 16 →
    s.ind.queue <+: t.ind.queue ∧
    (t.ind.queue.drop s.ind.queue.length).filter (fun r => which r.body) =
      if s.ind.mask.toNat.testBit kind then [] else bodies.map fun b => ⟨b, stamp⟩

/-- The records of one kind. -/
def Spec.ofKind (kind : Nat) (b : IndBody) : Bool := b.kindCode == kind

/-- The OUTPUT_STATE records of one output. -/
def Spec.ofOutput (k : Output) : IndBody → Bool
  | .outputState j _ _ => j == k
  | _ => false

/-- R165, R152, R125, R20: the end of a scan that has read everything: the controller is IDLE, and the
boot choice decides the mode: NONE, EMPTY and UNSOUND give SETUP with their PROFILE_DONE, SOUND a boot
load and RUN, with PROFILE_DONE, MODE_CHANGE and an OUTPUT_STATE for each channel enabled. In the three
that give SETUP the equations put PROFILE_DONE before MODE_CHANGE, which is the model's (log 3, DESIGN
CHOICE); for a boot load the records are stated kind by kind, in no order among the kinds. -/
def Obligations.ScanCompletionBoots : Prop :=
  ∀ s : State, s.profiles.ctl = .scanning → s.profiles.dirRead = true → s.profiles.examined = 8 →
    (s.profiles.boot = none → exec .scanCompletion s = .next (State.retarget { s with
      profiles := { s.profiles with ctl := .idle }
      mode := { s.mode with mode := .setup }
      ind := (Spec.doneInd none .boot .ok false s).posted (.modeChange .setup) s.timer.counter })) ∧
    (∀ n : ProfileNo, s.profiles.boot = some n → (s.profiles.entry n).held = none →
      exec .scanCompletion s = .next (State.retarget { s with
        profiles := { s.profiles with ctl := .idle, boot := none }
        mode := { s.mode with mode := .setup }
        ind := (Spec.doneInd (some n) .boot .failed true s).posted (.modeChange .setup) s.timer.counter })) ∧
    (∀ (n : ProfileNo) (h : Header), s.profiles.boot = some n →
      (s.profiles.entry n).held = some (false, h) →
      exec .scanCompletion s = .next (State.retarget { s with
        profiles := { s.profiles with ctl := .idle }
        mode := { s.mode with mode := .setup }
        ind := (Spec.doneInd (some n) .boot .badCheck true s).posted (.modeChange .setup)
          s.timer.counter })) ∧
    ∀ (n : ProfileNo) (h : Header) (p : Profile), s.profiles.boot = some n →
      (s.profiles.entry n).held = some (true, h) → (s.profiles.area n).profile? = some p → ∃ t,
      exec .scanCompletion s = .next t ∧
      t.mode = { s.mode with mode := .run } ∧ t.profiles = { s.profiles with ctl := .idle } ∧
      t.active = p.scene.derived ∧ t.pendingBank = p.scene.derived ∧ t.banks.revision = p.revision ∧
      t.banks.pendState = .editable ∧ t.acq.controls = p.input ∧ t.TargetFollows ∧
      t.master.level = s.master.level ∧ t.master.step = s.master.step ∧ t.master.mute = s.master.mute ∧
      (∀ k : Output, (s.chans.get k).state = .disabled →
        (t.chans.get k).controls = (p.outs.get k).controls ∧
        (t.chans.get k).state = (if (p.outs.get k).enable then .acquiring else .disabled) ∧
        ((p.outs.get k).enable = true → (t.chans.get k).presence = 0 ∧ (t.chans.get k).goodRun = 0 ∧
          (t.chans.get k).badRun = 0)) ∧
      (p.scene.canvasW ≠ s.active.scene.canvasW ∨ p.scene.canvasH ≠ s.active.scene.canvasH →
        t.frames.bufs = Three.all .empty) ∧
      Spec.Posts s.timer.counter 5 (Spec.ofKind 5) [.profileDone (some n) .boot .ok] s t ∧
      Spec.Posts s.timer.counter 8 (Spec.ofKind 8) [.modeChange .run] s t ∧
      (∀ k : Output, Spec.Posts s.timer.counter 2 (Spec.ofOutput k)
        (if (s.chans.get k).state = .disabled ∧ (p.outs.get k).enable = true then
          [.outputState k .acquiring .host] else []) s t) ∧
      (s.ind.queue.length ≤ 16 → t.ind.flags = s.ind.flags) ∧
      t.frames.mem = s.frames.mem ∧ t.link = s.link ∧ t.probe = s.probe ∧ t.free = s.free

/-- R162, R154: what the scan after a reset finds where the reset cut a flash operation: a store writing
its area, whatever the area held, EMPTY included, UNSOUND; a store writing its directory, SOUND with the
new contents; an erase blanking, UNSOUND unless wholly blank; an erase writing its directory, EMPTY; a
load and a boot choice write, the profile as before; and in every case the boot choice and the write count
of the newer directory copy. `p` is a profile store at rest, where the operation begins. That the whole
header of the new contents is read from an area whose store was cut is the model's (log 12, DEDUCED). -/
def Obligations.ResetDuringAFlashOperation : Prop :=
  ∀ (p : ProfileStore) (n : ProfileNo) (image old : Profile) (c : Bool) (d : Directory)
    (straps : BitVec 2) (s : State) (r : AreaReading),
    p.flash.areas.length = 8 → p.newer = some (c, d) →
    let scanned : ProfileStore → State → Prop := fun q t =>
      ∃ t1 t2, exec (.resetN straps) { s with profiles := q } = .next t1 ∧
        exec (.profileAreaExamined (.directory (c == false) c))
          { t1 with profiles := { t1.profiles with examined := n.val } } = .next t2 ∧
        exec (.profileAreaExamined (.area r)) t2 = .next t
    let asRecorded : State → Prop := fun t =>
      (t.profiles.entry n).writeCount = d.counts.getD n.val 0 ∧ t.profiles.boot = d.boot ∧
      t.profiles.ctl = .scanning ∧ t.pendingBank = defaultStore
    (∃ t, scanned (p.beginStore n image) t ∧ asRecorded t ∧
      (t.profiles.entry n).held = some (false, image.header)) ∧
    (∃ t, scanned ((p.beginStore n image).beginDirectoryPhase) t ∧ asRecorded t ∧
      (r = .passes → (t.profiles.entry n).held = some (true, image.header))) ∧
    (p.area n ≠ .blank →
      (∃ t, scanned (p.beginErase n) t ∧ asRecorded t ∧
        (t.profiles.entry n).sound? = (if r = .blank then none else some false)) ∧
      (∃ t, scanned ((p.beginErase n).beginDirectoryPhase) t ∧ asRecorded t ∧
        (t.profiles.entry n).held = none)) ∧
    (p.area n = .held old → ∀ (b : Option ProfileNo) (arm : Bool) (q : ProfileStore),
      q = p.beginBoot b ∨ q = p.setCtl (.loading n arm) →
      ∃ t, scanned q t ∧ asRecorded t ∧
        (t.profiles.entry n).held = match r with
          | .blank => none
          | .passes => some (true, old.header)
          | .fails => some (false, old.header))

/-! ### The input port (Chapter 1) -/

/-- R4, R16: entry to NO_SIGNAL by input loss. -/
def Spec.lost (s : State) : State :=
  State.retarget { Spec.leaving s with
    acq := { (Spec.leaving s).acq with
      state := .noSignal, window := [], measured := none, acqTimer := none, frame := none }
    ind := Indications.posted (.inputState .noSignal ⟨0, 0, 0⟩) s.timer.counter { s.ind with
      flags := { s.ind.flags with
        inputLost := true
        tornInput := s.ind.flags.tornInput || (s.acq.frame.bind InFrame.write).isSome } } }

/-- R5, R8, R15, R16: entry to MEASURING with a window, the frame that begins being its candidate. -/
def Spec.measuring (window : List FrameRecord) (frame : Option InFrame) (ind : Indications)
    (s : State) : State :=
  State.retarget { Spec.leaving s with
    acq := { (Spec.leaving s).acq with
      state := .measuring, window := window, measured := none
      acqTimer := Spec.limitTimer s.acq.controls, frame := frame }
    ind := if s.acq.state = .measuring then ind
      else ind.posted (.inputState .measuring ⟨0, 0, 0⟩) s.timer.counter }

/-- R4, R15, R16, R17, R3: a fall of INPUT_VALID and the end of the input loss guard enter NO_SIGNAL from
every other state; the acquisition timer's expiry posts ACQUIRE_TIMEOUT, sets ACQ_TIMEOUT and enters
MEASURING afresh; the hold timer's expiry ends picture allowed. A timer that does not run, a guard in
NO_SIGNAL, and an INPUT_VALID fall in NO_SIGNAL or STANDBY change nothing more. -/
def Obligations.InputLossAndTimerExpiries : Prop :=
  ∀ s : State,
    (s.acq.state ≠ .noSignal →
      exec .inputLossGuardExpiry s = .next (Spec.lost s) ∧
      (s.mode.mode ≠ .standby →
        exec .inputValidFall s = .next { Spec.lost s with pins := { s.pins with inputValid := false } })) ∧
    (s.acq.state = .noSignal → exec .inputLossGuardExpiry s = .next s) ∧
    (s.acq.state = .noSignal ∨ s.mode.mode = .standby →
      exec .inputValidFall s = .next { s with pins := { s.pins with inputValid := false } }) ∧
    (s.acq.acqTimer ≠ none →
      exec .acquisitionTimerExpiry s = .next (Spec.measuring []
        ((Spec.leaving s).acq.frame)
        (Indications.posted (.acquireTimeout s.acq.state) s.timer.counter
          { s.ind with flags := { s.ind.flags with acqTimeout := true } }) s)) ∧
    (s.acq.acqTimer = none → exec .acquisitionTimerExpiry s = .next s) ∧
    (s.acq.holdTimer ≠ none →
      exec .holdTimerExpiry s = .next (State.retarget { s with acq := { s.acq with holdTimer := none } })) ∧
    (s.acq.holdTimer = none → exec .holdTimerExpiry s = .next s)

/-- R6, R8: a record has the size of a reference and a period within one part in 512 of its period. -/
def Spec.fits (ref r : FrameRecord) : Prop :=
  r.width = ref.width ∧ r.height = ref.height ∧
  r.period ≤ ref.period + ref.period / 512 ∧ ref.period ≤ r.period + ref.period / 512

/-- R6: the window after a record, or after a cut-short frame. -/
def Spec.Window (before : List FrameRecord) (r : Option FrameRecord) (after : List FrameRecord) : Prop :=
  (r = none ∧ after = []) ∨
  ∃ x, r = some x ∧
    ((before = [] ∧ after = [x]) ∨
      ∃ ref rest, before = ref :: rest ∧
        ((Spec.fits ref x ∧ after = before ++ [x]) ∨ (¬ Spec.fits ref x ∧ after = [x])))

/-- R7, R11: the state after the format check of a completed measurement. The window register keeps the
records that completed it (log 33, DEDUCED). -/
def Spec.checked (m : FrameRecord) (window : List FrameRecord) (frame : InFrame) (s : State) : State :=
  Spec.judged m { s with acq := { s.acq with window := window, frame := some frame } }

/-- R1: the state that senses INPUT_VALID high. -/
def Spec.valid (s : State) : State := { s with pins := { s.pins with inputValid := true } }

/-- R1, R5 to R8, R20: an input frame start outside the locked states. It is ignored in STANDBY and with
INPUT_VALID low, whatever the pin was before; enters MEASURING from NO_SIGNAL; builds the window in
MEASURING and runs the format check when it is full; and in UNSUPPORTED, MISMATCH and AWAIT_ACCEPT goes
back to MEASURING on a record that does not fit or a cut-short frame. The frame that begins is not written.
What the window register holds after the format check is the model's (log 33, DEDUCED). -/
def Obligations.FrameStartOutsideLocked : Prop :=
  ∀ (s : State) (time : Nat) (env : Env),
    (∀ valid : Bool, s.mode.mode = .standby ∨ valid = false →
      exec (.inputFrameStart valid time env) s = .next { s with pins := { s.pins with inputValid := valid } }) ∧
    (s.mode.mode ≠ .standby →
      (s.acq.state = .noSignal →
        exec (.inputFrameStart true time env) s =
          .next (Spec.measuring [] (some ⟨time, none, none⟩) s.ind (Spec.valid s))) ∧
      ∀ f : InFrame, s.acq.frame = some f → time ≤ f.start + 50000000 →
        (s.acq.state = .measuring → ∀ window,
          Spec.Window s.acq.window (f.size.map fun z => ⟨z.1, z.2, time - f.start⟩) window →
          (window.length ≠ 4 →
            exec (.inputFrameStart true time env) s = .next (State.retarget { Spec.valid s with
              acq := { s.acq with window := window, frame := some ⟨time, none, none⟩ } })) ∧
          ∀ a b c d, window = [a, b, c, d] →
            exec (.inputFrameStart true time env) s = .next (Spec.checked
              ⟨a.width, a.height, (a.period + b.period + c.period + d.period + 2) / 4⟩
              window ⟨time, none, none⟩ (Spec.valid s))) ∧
        (s.acq.state = .unsupported ∨ s.acq.state = .mismatch ∨ s.acq.state = .awaitAccept →
          ∀ m, s.acq.measured = some m →
          (f.size = none →
            exec (.inputFrameStart true time env) s =
              .next (Spec.measuring [] (some ⟨time, none, none⟩) s.ind (Spec.valid s))) ∧
          ∀ z, f.size = some z →
            (¬ Spec.fits m ⟨z.1, z.2, time - f.start⟩ →
              exec (.inputFrameStart true time env) s = .next (Spec.measuring
                [⟨z.1, z.2, time - f.start⟩] (some ⟨time, none, none⟩) s.ind (Spec.valid s))) ∧
            (Spec.fits m ⟨z.1, z.2, time - f.start⟩ →
              exec (.inputFrameStart true time env) s = .next (State.retarget { Spec.valid s with
                acq := { s.acq with frame := some ⟨time, none, none⟩ } }))))

/-- R23: the buffer a frame is written into. -/
def Spec.WriterTakes (bufs : Three BufRec) (b : BufNo) : Prop :=
  (bufs.get b = .empty ∧ ∀ c < b, bufs.get c ≠ .empty) ∨
  ((∀ c, bufs.get c ≠ .empty) ∧ ∃ n v, bufs.get b = .complete n v ∧
    (∃ c m w, c ≠ b ∧ bufs.get c = .complete m w) ∧
    ∀ c m w, c ≠ b → bufs.get c = .complete m w → n < m)

/-- R12: the staged period that a pair with phase error `e` gives. -/
def Spec.stagedBy (target n : Nat) (e : Int) : Nat :=
  (max ((target : Int) - (target / 1024 : Nat)) (min ((target : Int) + (target / 1024 : Nat))
    ((target : Int) - (e + 4 * n) / (8 * n)))).toNat

/-- R12 to R14: a pair with phase error `e` in a locked state whose target is `p`: from `s`, whose waiting
events are gone, to `t`. -/
def Spec.Paired (p : Nat) (e : Int) (s t : State) : Prop :=
  t.timer = { s.timer with staged := Spec.stagedBy p s.acq.controls.cadence.n e } ∧
  t.acq.waitStart = none ∧ t.acq.waitCadence = none ∧
  (s.acq.state = .locking →
    (|e| ≤ (p / 64 : Nat) → 7 ≤ s.acq.good →
      t.acq.state = .locked ∧ t.acq.good = 0 ∧ t.acq.acqTimer = none ∧
      t.ind = s.ind.posted (.inputState .locked (s.acq.measured.getD ⟨0, 0, 0⟩)) s.timer.counter) ∧
    (|e| ≤ (p / 64 : Nat) → s.acq.good < 7 →
      t.acq.state = .locking ∧ t.acq.good = s.acq.good + 1 ∧ t.ind = s.ind) ∧
    ((p / 64 : Nat) < |e| → t.acq.state = .locking ∧ t.acq.good = 0 ∧ t.ind = s.ind)) ∧
  (s.acq.state = .locked →
    ((p / 16 : Nat) < |e| → 1 ≤ s.acq.bad →
      t.acq.state = .locking ∧ t.acq.bad = 0 ∧ t.acq.good = 0 ∧ t.acq.alignDue = true ∧
      t.acq.acqTimer = Spec.limitTimer s.acq.controls ∧
      t.ind = s.ind.posted (.inputState .locking (s.acq.measured.getD ⟨0, 0, 0⟩)) s.timer.counter) ∧
    ((p / 16 : Nat) < |e| → s.acq.bad = 0 →
      t.acq.state = .locked ∧ t.acq.bad = 1 ∧ t.ind = s.ind) ∧
    (|e| ≤ (p / 16 : Nat) → t.acq.state = .locked ∧ t.acq.bad = 0 ∧ t.ind = s.ind))

/-- R23, where no buffer is FILLING: as `Spec.WriterTakes`, but leaving open which of two COMPLETE buffers
with one frame number is taken (the counter gives no number twice before it wraps, R22). -/
def Spec.WriterMayTake (bufs : Three BufRec) (b : BufNo) : Prop :=
  (bufs.get b = .empty ∧ ∀ c < b, bufs.get c ≠ .empty) ∨
  ((∀ c, bufs.get c ≠ .empty) ∧ ∃ n v, bufs.get b = .complete n v ∧
    (∃ c m w, c ≠ b ∧ bufs.get c = .complete m w) ∧
    ∀ c m w, c ≠ b → bufs.get c = .complete m w → n ≤ m)

/-- R26: buffer `b` becomes SHOWING, and any other that was SHOWING returns to COMPLETE. -/
def Spec.Shows (b : BufNo) (before after : Three BufRec) : Prop :=
  ∀ c, after.get c = match before.get c with
    | .complete n v => if c = b then .showing n v else .complete n v
    | .showing n v => if c = b then .showing n v else .complete n v
    | .empty => .empty
    | .filling n v => .filling n v

/-- R21: `b` is a COMPLETE buffer with the highest frame number, `n`. -/
def Spec.NewestComplete (bufs : Three BufRec) (b : BufNo) (n : BitVec 40) : Prop :=
  (∃ v, bufs.get b = .complete n v) ∧ ∀ c m w, bufs.get c = .complete m w → m ≤ n

/-- R28: the newest complete buffer is shown if it is newer than the SHOWING one or none is SHOWING;
otherwise the buffers stay. -/
def Spec.NewestShown (before after : Three BufRec) : Prop :=
  (∃ b n, Spec.NewestComplete before b n ∧ (∀ c m w, before.get c = .showing m w → m < n) ∧
    Spec.Shows b before after) ∨
  ((∀ b n, Spec.NewestComplete before b n → ∃ c m w, before.get c = .showing m w ∧ n ≤ m) ∧
    after = before)

/-- R27: frame `e` is expected: a COMPLETE or SHOWING buffer that holds it is shown, else as in R28. -/
def Spec.ExpectedShown (e : BitVec 40) (before after : Three BufRec) : Prop :=
  (∃ b v, (before.get b = .complete e v ∨ before.get b = .showing e v) ∧ Spec.Shows b before after) ∨
  ((∀ b v, before.get b ≠ .complete e v ∧ before.get b ≠ .showing e v) ∧ Spec.NewestShown before after)

/-- R10 to R14, R16, R22, R23: an input frame start in a locked state. A written frame still in progress
is torn and the state becomes MEASURING; with alignment outstanding the timer takes a start at once with
the target period, at which the newest frame is chosen (R28) and the frame is written, in either order;
otherwise every D-th start is a cadence point, which waits or pairs with the waiting position-0 start, and
the frame is written. A frame is written into the buffer of R23 and takes the counter's number. That the
write at an alignment point is one of the takers of its start, and so may come before or after the choice,
is the model's (log 27, DEDUCED). -/
def Obligations.FrameStartInLocked : Prop :=
  ∀ (s : State) (time : Nat) (env : Env), s.mode.mode ≠ .standby →
    s.acq.state = .locking ∨ s.acq.state = .locked →
    (∀ f, s.acq.frame = some f → time ≤ f.start + 50000000) →
    (∀ w, s.writing? = some w →
      exec (.inputFrameStart true time env) s = .next (Spec.measuring [] (some ⟨time, none, none⟩)
        { s.ind with flags := { s.ind.flags with tornInput := true } } (Spec.valid s))) ∧
    (s.writing? = none → s.acq.state = .locking → s.acq.alignDue = true →
      s.banks.pendState ≠ .armed → s.mode.mode ≠ .dimming → ∀ p, s.acq.target = some p → ∃ t,
      exec (.inputFrameStart true time env) s = .next t ∧
      t.timer = { s.timer with
        lastStart := time, current := p, staged := p, position := 0, counter := s.timer.counter + 1 } ∧
      t.acq.state = .locking ∧ t.acq.alignDue = false ∧ t.acq.lastCadence = some s.frames.counter ∧
      t.acq.waitCadence = s.acq.waitCadence ∧ t.acq.waitStart = s.acq.waitStart ∧
      t.frames.base = none ∧ t.frames.slips = s.frames.slips ∧ t.banks = s.banks ∧
      (s.BuffersSound → ∃ (b : BufNo) (bufs : Three BufRec),
        Spec.WriterMayTake bufs b ∧
        (bufs = s.frames.bufs ∧ Spec.NewestShown
            (bufs.set b (.filling s.frames.counter s.banks.revision)) t.frames.bufs ∨
          Spec.NewestShown s.frames.bufs bufs ∧
            t.frames.bufs = bufs.set b (.filling s.frames.counter s.banks.revision)) ∧
        (∀ c, s.frames.bufs.get c = .empty → bufs.get c = .empty) ∧
        t.acq.frame = some ⟨time, none, some ⟨b, s.active.scene.decode⟩⟩ ∧
        t.frames.bufs.get b = .filling s.frames.counter s.banks.revision ∧
        t.frames.counter = s.frames.counter + 1) ∧
      ∀ b, (∃ c, s.frames.bufs.get c = .empty) → Spec.WriterTakes s.frames.bufs b →
        t.acq.frame = some ⟨time, none, some ⟨b, s.active.scene.decode⟩⟩ ∧
        t.frames.bufs.get b = .filling s.frames.counter s.banks.revision ∧
        t.frames.counter = s.frames.counter + 1) ∧
    (s.writing? = none → ¬ (s.acq.state = .locking ∧ s.acq.alignDue = true) →
      ∀ b, Spec.WriterTakes s.frames.bufs b → ∃ t,
      exec (.inputFrameStart true time env) s = .next t ∧
      t.frames = { s.frames with
        bufs := s.frames.bufs.set b (.filling s.frames.counter s.banks.revision)
        counter := s.frames.counter + 1 } ∧
      t.acq.frame = some ⟨time, none, some ⟨b, s.active.scene.decode⟩⟩ ∧
      (s.acq.sinceCadence + 1 < s.acq.controls.cadence.d →
        t.acq = { s.acq with sinceCadence := s.acq.sinceCadence + 1, frame := t.acq.frame } ∧
        t.timer = s.timer ∧ t.ind = s.ind) ∧
      (s.acq.controls.cadence.d ≤ s.acq.sinceCadence + 1 →
        t.acq.sinceCadence = 0 ∧ t.acq.prevCadence = s.acq.lastCadence ∧
        t.acq.lastCadence = some s.frames.counter ∧
        (s.acq.waitStart = none →
          t.acq.waitCadence = some time ∧ t.acq.state = s.acq.state ∧ t.timer = s.timer ∧ t.ind = s.ind) ∧
        ∀ p start, s.acq.target = some p → s.acq.waitStart = some start → s.acq.waitCadence = none →
          Spec.Paired p ((start : Int) - time) s t) ∧
      t.chans = s.chans ∧ t.banks = s.banks ∧ t.profiles = s.profiles ∧ t.mode = s.mode ∧
      t.link = s.link ∧ t.probe = s.probe ∧ t.free = s.free ∧ t.pins = (Spec.valid s).pins)

/-- R1, R16, R24, R25, R85: an input frame end. That of a written frame of the measured size completes its
buffer, which then holds every pixel through the frame's decode table; of another size it is torn. A
frame that was not written changes no buffer. A well-formed frame's picture holds, at every position of
its active lines, the last pixel listed there, or the background. -/
def Obligations.FrameEndCompletesTheBuffer : Prop :=
  (∀ (s : State) (frame : InputFrame) (f : InFrame), s.mode.mode ≠ .standby → s.pins.inputValid = true →
    s.acq.frame = some f → f.size = none →
    (f.write = none → exec (.inputFrameEnd true frame) s = .next (State.retarget { s with
      acq := { s.acq with frame := some { f with size := some (activeSize frame) } } })) ∧
    ∀ w, f.write = some w →
      (s.acq.measured.map (fun m => (m.width, m.height)) = some (activeSize frame) →
        ∀ n v, s.frames.bufs.get w.buf = .filling n v →
        exec (.inputFrameEnd true frame) s = .next (State.retarget { s with
          frames := { s.frames with
            bufs := s.frames.bufs.set w.buf (.complete n v)
            mem := s.frames.mem.set w.buf (convertFrame frame w.table) }
          acq := { s.acq with
            frame := some { f with size := some (activeSize frame), write := none } } })) ∧
      (s.acq.state = .locking ∨ s.acq.state = .locked →
        s.acq.measured.map (fun m => (m.width, m.height)) ≠ some (activeSize frame) →
        exec (.inputFrameEnd true frame) s = .next (Spec.measuring []
          (some { f with size := some (activeSize frame), write := none })
          { s.ind with flags := { s.ind.flags with tornInput := true } } s))) ∧
  (∀ (s : State) (frame : InputFrame) (valid : Bool),
    s.mode.mode = .standby ∨ valid = false →
    exec (.inputFrameEnd valid frame) s = .next { s with pins := { s.pins with inputValid := valid } }) ∧
  ∀ (frame : InputFrame) (table : List Nat) (x y : Nat), frame.wellFormed = true →
    (∀ w ∈ frame.lines, w ≤ 4096) → x < frame.lines.getD y 0 →
    (convertFrame frame table).read (pixelKey x y) = decodePixel table
      (match frame.pixels.reverse.find? (fun q => decide (q.1 = x ∧ q.2.1 = y)) with
        | some q => q.2.2
        | none => frame.background)

/-! ### The presentation frame start (Chapters 2, 5, 6 and 7) -/

/-- R141: the banks swap at this start. -/
def Spec.swaps (s : State) : Bool :=
  decide (s.banks.pendState = .armed) && match s.profiles.ctl with
    | .storing _ _ _ => false
    | _ => true

/-- R9, R29: the swap at this start changes the canvas size. -/
def Spec.resizes (s : State) : Bool :=
  Spec.swaps s && (decide (s.pendingBank.scene.canvasW ≠ s.active.scene.canvasW) ||
    decide (s.pendingBank.scene.canvasH ≠ s.active.scene.canvasH))

/-- R41: this start completes a dimming, in a state whose target follows its conditions. -/
def Spec.sleeps (s : State) : Bool :=
  decide (s.mode.mode = .dimming) && decide (s.master.level ≤ s.master.step)

/-- R10: the group base at a start from `s`, whose work leads to `t`: handed at position 0, kept elsewhere.
None is handed while alignment is outstanding (log 29, DEDUCED). -/
def Spec.BaseHanded (s t : State) : Prop :=
  (t.timer.position ≠ 0 → t.frames.base = s.frames.base) ∧
  (t.timer.position = 0 →
    ((s.acq.state = .locking ∨ s.acq.state = .locked) ∧ s.acq.alignDue = false →
      t.frames.base =
        (if s.acq.waitCadence = none then s.acq.lastCadence else s.acq.prevCadence)) ∧
    (¬ ((s.acq.state = .locking ∨ s.acq.state = .locked) ∧ s.acq.alignDue = false) →
      t.frames.base = none))

/-- R30, R31: the slip counter, the SLIP flag and the threshold after a choice that was a slip, and after
one that was not; the SLIP_THRESHOLD record of a slip that meets the armed threshold, one for each. -/
def Spec.SlipCounted (slip : Prop) (s t : State) : Prop :=
  t.frames.threshold = s.frames.threshold ∧
  (slip →
    t.frames.slips = min 65535 (s.frames.slips + 1) ∧ t.ind.flags.slip = true ∧
    t.frames.armed =
      (s.frames.armed && !decide (s.frames.threshold ≤ min 65535 (s.frames.slips + 1))) ∧
    Spec.Posts (s.timer.counter + 1) 7 (Spec.ofKind 7)
      (if s.frames.armed ∧ s.frames.threshold ≤ min 65535 (s.frames.slips + 1) then
        [.slipThreshold (min 65535 (s.frames.slips + 1))] else []) s t) ∧
  (¬ slip →
    t.frames.slips = s.frames.slips ∧ t.ind.flags.slip = s.ind.flags.slip ∧
    t.frames.armed = s.frames.armed ∧
    Spec.Posts (s.timer.counter + 1) 7 (Spec.ofKind 7) [] s t)

/-- R26 to R28, R30: the choice of the frame to show, in LOCKED by the expected frame where the group has
a base, and else by the newest. The expected number wraps with the counter (log 23, DEDUCED). -/
def Spec.Selected (locked : Bool) (s t : State) : Prop :=
  (∀ base e, locked = true → t.frames.base = some base →
    e = base + BitVec.ofNat 40
      (t.timer.position * s.acq.controls.cadence.d / s.acq.controls.cadence.n) →
    Spec.ExpectedShown e s.frames.bufs t.frames.bufs ∧
    Spec.SlipCounted (∀ b v, t.frames.bufs.get b ≠ .showing e v) s t) ∧
  (locked = false ∨ t.frames.base = none →
    Spec.NewestShown s.frames.bufs t.frames.bufs ∧ Spec.SlipCounted False s t)

/-- R26, R29: the buffers after a start that neither empties them nor enters STANDBY. Where a pairing at
this start changes the acquisition state, the choice may come before or after it (R26). -/
def Spec.Selection (s t : State) : Prop :=
  s.BuffersSound → Spec.resizes s = false → Spec.sleeps s = false →
    (t.acq.state = s.acq.state → Spec.Selected (decide (s.acq.state = .locked)) s t) ∧
    (t.acq.state ≠ s.acq.state → Spec.Selected true s t ∨ Spec.Selected false s t)

/-- R9, R29, R3, R17: a swap that changes the canvas size, where the start does not enter STANDBY: the
buffers empty and the acquisition state follows the new size. -/
def Spec.Resized (s t : State) : Prop :=
  t.frames.bufs = Three.all .empty ∧
  (s.acq.state = .noSignal ∨ s.acq.state = .measuring ∨ s.acq.state = .unsupported →
    t.acq.state = s.acq.state ∧ Spec.Posts (s.timer.counter + 1) 0 (Spec.ofKind 0) [] s t) ∧
  ∀ m, s.acq.measured = some m →
    (s.acq.state = .mismatch →
      t.acq.state = Spec.checkedState m t ∧
      t.acq.target = some (Spec.targetPeriod m s.acq.controls.cadence) ∧
      (t.acq.state = .locking → t.acq.alignDue = true ∧ t.timer.mode = .follow ∧
        t.acq.acqTimer = Spec.limitTimer s.acq.controls ∧ t.acq.holdTimer = none) ∧
      Spec.Posts (s.timer.counter + 1) 0 (Spec.ofKind 0)
        (if t.acq.state = .mismatch then [] else [.inputState t.acq.state m]) s t) ∧
    (s.acq.state = .awaitAccept →
      (Spec.sizeFits m t → t.acq.state = .awaitAccept ∧
        Spec.Posts (s.timer.counter + 1) 0 (Spec.ofKind 0) [] s t) ∧
      (¬ Spec.sizeFits m t → t.acq.state = .mismatch ∧ t.acq.acqTimer = none ∧
        Spec.Posts (s.timer.counter + 1) 0 (Spec.ofKind 0) [.inputState .mismatch m] s t)) ∧
    (s.acq.state = .locking ∨ s.acq.state = .locked → ¬ Spec.sizeFits m t →
      t.acq.state = .mismatch ∧ t.timer.mode = .free ∧ t.timer.staged = t.timer.current ∧
      t.acq.good = 0 ∧ t.acq.bad = 0 ∧ t.acq.waitCadence = none ∧ t.acq.waitStart = none ∧
      t.acq.alignDue = false ∧ t.acq.acqTimer = none ∧ t.writing? = none ∧
      t.acq.holdTimer = (if s.acq.controls.hold = 0 then none else some s.acq.controls.hold) ∧
      (s.ind.queue.length ≤ 16 → s.ind.mask.toNat.testBit 0 = false →
        ⟨.inputState .mismatch m, s.timer.counter + 1⟩ ∈ t.ind.queue.drop s.ind.queue.length))

/-- R142, R145, R167, R100: the records of a swap, of a change of mode and of a served probe. -/
def Spec.StartRecords (s t : State) : Prop :=
  Spec.Posts (s.timer.counter + 1) 3 (Spec.ofKind 3)
    (if Spec.swaps s then [.bankSwapped (s.banks.revision + 1)] else []) s t ∧
  Spec.Posts (s.timer.counter + 1) 8 (Spec.ofKind 8)
    (if Spec.swaps s = true ∧ s.mode.mode = .setup then [.modeChange .run]
      else if Spec.sleeps s then [.modeChange .standby] else []) s t ∧
  Spec.Posts (s.timer.counter + 1) 6 (Spec.ofKind 6)
    (match s.probe with
      | .waiting k _ _ => [.probeReady k]
      | _ => []) s t

/-- R35, R34, R38, R40, R41, R10, R12, R26 to R31, R9, R97, R141, R142, R145: the timer's own start, in
any order of its takers. It does nothing while the timer is stopped. Otherwise the current period becomes
the staged one, the position and the counter advance; the group base is handed at position 0; the frame to
show is chosen, and a slip counted; an ARMED bank swaps unless a store runs, which is the only change of
the banks, and one that changes the canvas size empties the buffers and moves the acquisition state; a
waiting probe becomes READY with the pixel of the frame that begins; the level moves by its step toward the
target; a start that brings the level to 0 in DIMMING enters STANDBY; in a locked state a position-0 start
pairs with the waiting cadence point. The records are stated kind by kind. The time of the start,
`lastStart` plus `current`, which the pairing reads, is the model's (log 6, DEDUCED). -/
def Obligations.FrameStartMovesTheTimerTheLevelAndTheBanks : Prop :=
  ∀ (s : State) (env : Env),
    (s.timer.running = false → exec (.presentationFrameStart env) s = .next s) ∧
    (s.timer.running = true → ∃ t,
      exec (.presentationFrameStart env) s = .next t ∧
      t.timer.current = s.timer.staged ∧ t.timer.free = s.timer.free ∧
      t.timer.counter = s.timer.counter + 1 ∧
      t.timer.position = (if s.acq.controls.cadence.n ≤ s.timer.position + 1 then 0
        else s.timer.position + 1) ∧
      t.timer.lastStart = s.timer.lastStart + s.timer.current ∧
      t.pins = { s.pins with linkGood := env.link } ∧ t.link = s.link ∧ t.profiles = s.profiles ∧
      t.frames.mem = s.frames.mem ∧ t.frames.counter = s.frames.counter ∧ t.free = s.free ∧
      (s.banks.pendState = .armed → (∀ n p d, s.profiles.ctl ≠ .storing n p d) →
        t.banks = { s.banks with
          activeIsOne := !s.banks.activeIsOne, revision := s.banks.revision + 1, pendState := .syncing } ∧
        (s.mode.mode = .setup → t.mode = { s.mode with mode := .run })) ∧
      (s.banks.pendState ≠ .armed ∨ (∃ n p d, s.profiles.ctl = .storing n p d) → t.banks = s.banks) ∧
      (∀ k u v, s.probe = .waiting k u v → t.probe = .ready (t.probeResult k u v)) ∧
      ((∀ k u v, s.probe ≠ .waiting k u v) → t.probe = s.probe) ∧
      t.master.step = s.master.step ∧ t.master.mute = s.master.mute ∧ t.TargetFollows ∧
      (s.TargetFollows → s.mode.mode ≠ .dimming → s.banks.pendState ≠ .armed →
        (∀ k : Output, (s.chans.get k).controls.policy ≠ .allBlack) →
        t.mode = s.mode ∧ t.master.target = s.master.target ∧
        t.master.level = (if s.master.level < s.master.target then
            min s.master.target (s.master.level + s.master.step)
          else max s.master.target (s.master.level - s.master.step))) ∧
      (s.TargetFollows → s.mode.mode = .dimming →
        (s.master.level ≤ s.master.step →
          t.mode = { s.mode with mode := .standby } ∧ t.Dark ∧ t.master.level = 0) ∧
        (s.master.step < s.master.level →
          t.mode = s.mode ∧ t.master.level = s.master.level - s.master.step)) ∧
      ((s.acq.state = .locking ∨ s.acq.state = .locked) → s.acq.alignDue = false →
        s.mode.mode ≠ .dimming → s.banks.pendState ≠ .armed → t.timer.position = 0 →
        ∀ p point, s.acq.target = some p → s.acq.waitCadence = some point → s.acq.waitStart = none →
          t.timer.staged = Spec.stagedBy p s.acq.controls.cadence.n
            ((s.timer.lastStart + s.timer.current : Nat) - (point : Int))) ∧
      Spec.BaseHanded s t ∧
      (s.TargetFollows → Spec.Selection s t ∧
        (Spec.resizes s = true → Spec.sleeps s = false → Spec.Resized s t) ∧ Spec.StartRecords s t))

/-- R105 to R109, as a table: state, presence, good run and bad run of a channel after a presentation
frame start with a good or a bad sample. -/
def Spec.channelAfter (good : Bool) (c : Channel) : ChanState × Nat × Nat × Nat :=
  match c.state, good with
  | .disabled, _ => (.disabled, 0, c.goodRun, c.badRun)
  | .acquiring, true =>
    if c.controls.settle ≤ min 255 (c.goodRun + 1) then
      (.active, min 4096 (c.presence + c.controls.rise), 0, 0)
    else (.acquiring, 0, min 255 (c.goodRun + 1), 0)
  | .acquiring, false => (.acquiring, 0, 0, min 15 (c.badRun + 1))
  | .active, true => (.active, min 4096 (c.presence + c.controls.rise), min 255 (c.goodRun + 1), 0)
  | .active, false =>
    if c.controls.lossConfirm ≤ min 15 (c.badRun + 1) then
      (.lost, if c.controls.policy = .refill then 0 else c.presence, 0, 0)
    else (.active, min 4096 (c.presence + c.controls.rise), 0, min 15 (c.badRun + 1))
  | .retiring, true =>
    if c.presence ≤ c.controls.fall then (.disabled, 0, 0, 0)
    else (.retiring, c.presence - c.controls.fall, min 255 (c.goodRun + 1), 0)
  | .retiring, false => (.disabled, 0, 0, 0)
  | .lost, true =>
    if c.controls.settle ≤ min 255 (c.goodRun + 1) then
      if c.controls.autoRejoin then (.active, min 4096 (c.presence + c.controls.rise), 0, 0)
      else (.parked, if c.controls.policy = .refill then 0 else c.presence, 0, 0)
    else (.lost, if c.controls.policy = .refill then 0 else c.presence, min 255 (c.goodRun + 1), 0)
  | .lost, false =>
    (.lost, if c.controls.policy = .refill then 0 else c.presence, 0, min 15 (c.badRun + 1))
  | .parked, true =>
    (.parked, if c.controls.policy = .refill then 0 else c.presence, min 255 (c.goodRun + 1), 0)
  | .parked, false =>
    if c.controls.lossConfirm ≤ min 15 (c.badRun + 1) then
      (.lost, if c.controls.policy = .refill then 0 else c.presence, 0, 0)
    else (.parked, if c.controls.policy = .refill then 0 else c.presence, 0, min 15 (c.badRun + 1))

/-- R119: what a port carries, by the channel's state, its path mode and the part mode of RUN or SETUP, or
the mode remembered in DIMMING. -/
def Spec.portOf (home : HomeMode) (state : ChanState) (c : OutputControls) : PortContent :=
  if state ≠ .active ∧ state ≠ .retiring then .code0
  else if c.path = .pattern then .pattern c.kind c.level
  else if c.path = .normal ∧ home = .setup then .pattern .grid c.level
  else .computed

/-- The mode that decides what the NORMAL ports carry (R119): RUN, SETUP, or the remembered one. -/
def Spec.home (s : State) : HomeMode :=
  match s.mode.mode with
  | .run => .run
  | .setup => .setup
  | _ => s.mode.remembered

/-- R104: the cause of the state change of a start, by the state left and the sample. -/
def Spec.causeOf (good : Bool) (left : ChanState) : Cause :=
  match left, good with
  | .acquiring, _ => .settled
  | .lost, _ => .linkBack
  | .retiring, true => .rampDone
  | _, _ => .linkLost

/-- R105 to R110, R104, R119: the work of each channel at a presentation frame start in RUN, in SETUP, and
in a DIMMING that this start does not complete: its record by the table, the values the frame uses, its
port by the mode before the start, or by RUN where a swap out of SETUP precedes its work; its OUTPUT_LOST
flag on entry to LOST and its OUTPUT_STATE record with the cause; its controls stay. R126, R41: at the
start that completes a DIMMING a channel in use becomes ACQUIRING with presence 0 unless a retirement ends
first, and every port carries code 0. That a sample
after the entry changes no state, with a settle count of 1 too, is log 21 (DEDUCED). -/
def Obligations.FrameStartWorksTheChannels : Prop :=
  ∀ (s : State) (env : Env) (k : Output), s.timer.running = true →
    (s.mode.mode = .run ∨ s.mode.mode = .setup ∨ s.mode.mode = .dimming) →
    (s.mode.mode = .dimming → s.TargetFollows) →
    (s.chans.get k).controls.InRange → ∃ t,
    exec (.presentationFrameStart env) s = .next t ∧
    (t.chans.get k).controls = (s.chans.get k).controls ∧
    (Spec.sleeps s = false →
      ((t.chans.get k).state, (t.chans.get k).presence, (t.chans.get k).goodRun, (t.chans.get k).badRun) =
        Spec.channelAfter (env.link.get k) (s.chans.get k) ∧
      (t.chans.get k).framePresence = (t.chans.get k).presence ∧
      (t.chans.get k).framePath = (s.chans.get k).controls.path ∧
      (s.mode.mode ≠ .setup ∨ Spec.swaps s = false →
        (t.chans.get k).port =
          Spec.portOf (Spec.home s) (t.chans.get k).state (s.chans.get k).controls) ∧
      (s.mode.mode = .setup → Spec.swaps s = true →
        (t.chans.get k).port = Spec.portOf .setup (t.chans.get k).state (s.chans.get k).controls ∨
        (t.chans.get k).port = Spec.portOf .run (t.chans.get k).state (s.chans.get k).controls) ∧
      t.ind.flags.outputLost.get k = (s.ind.flags.outputLost.get k ||
        (decide ((t.chans.get k).state = .lost) && decide ((s.chans.get k).state ≠ .lost))) ∧
      Spec.Posts (s.timer.counter + 1) 2 (Spec.ofOutput k)
        (if (t.chans.get k).state = (s.chans.get k).state then []
          else [.outputState k (t.chans.get k).state
            (Spec.causeOf (env.link.get k) (s.chans.get k).state)]) s t) ∧
    (Spec.sleeps s = true → (s.chans.get k).Sound →
      (t.chans.get k).presence = 0 ∧ (t.chans.get k).framePresence = 0 ∧ (t.chans.get k).port = .code0 ∧
      ((s.chans.get k).state = .disabled → (t.chans.get k).state = .disabled) ∧
      ((s.chans.get k).state ≠ .disabled → (s.chans.get k).state ≠ .retiring →
        (t.chans.get k).state = .acquiring) ∧
      ((s.chans.get k).state = .retiring → (t.chans.get k).state = .acquiring ∨
        (t.chans.get k).state = .disabled ∧
          (Spec.channelAfter (env.link.get k) (s.chans.get k)).1 = .disabled))

/-! ### The blend (Chapter 4) -/

/-- Conventions of 00_scope.md: `q` is round(x / y): the quotient of `x + y div 2` by `y`, floored. -/
def Spec.Rounded (q x : Int) (y : Nat) : Prop :=
  (y : Int) * q ≤ x + (y / 2 : Nat) ∧ x + (y / 2 : Nat) < (y : Int) * (q + 1)

/-- R44: the points of a layout along one axis of a raster. -/
def Spec.pointsAlong (size pitch : Nat) : Nat := (size - 1 + pitch - 1) / pitch + 1

/-- R51, R52, R53: the sum of the four corner values `val` of a pixel's cell, weighted, in the mesh of
output `k`: `i`, `j` the cell and `a`, `b` the offset in it. -/
def Spec.cornerSum (sc : Scene) (k : Output) (val : Point → Int) (i j a b : Nat) : Int :=
  let cols := Spec.pointsAlong sc.rasterW (sc.outs.get k).pitch
  let point : Nat → Int := fun n => val ((sc.outs.get k).points.getD n ⟨0, 0, 0⟩)
  (((sc.outs.get k).pitch : Int) - a) * (((sc.outs.get k).pitch : Int) - b) * point (j * cols + i) +
    a * (((sc.outs.get k).pitch : Int) - b) * point (j * cols + i + 1) +
    (((sc.outs.get k).pitch : Int) - a) * b * point ((j + 1) * cols + i) +
    a * b * point ((j + 1) * cols + i + 1)

/-- R51 to R54, R49: mesh position, gain and degrade flag of pixel (u, v). -/
def Spec.MeshWarped (st : BankStore) (k : Output) (u v : Nat) (x : PixelStages) : Prop :=
  ∀ pitch i j a b : Nat, pitch = (st.scene.outs.get k).pitch →
    i = min (u / pitch) (Spec.pointsAlong st.scene.rasterW pitch - 2) →
    j = min (v / pitch) (Spec.pointsAlong st.scene.rasterH pitch - 2) →
    u = i * pitch + a → v = j * pitch + b →
    a ≤ pitch ∧ b ≤ pitch ∧
    Spec.Rounded x.sx (Spec.cornerSum st.scene k Point.sx i j a b) (pitch * pitch) ∧
    Spec.Rounded x.sy (Spec.cornerSum st.scene k Point.sy i j a b) (pitch * pitch) ∧
    Spec.Rounded x.gain (Spec.cornerSum st.scene k (fun p => p.m) i j a b) (pitch * pitch) ∧
    x.degraded = st.flagOf k (j * (Spec.pointsAlong st.scene.rasterW pitch - 1) + i)

/-- R58, R60: the linear values at a canvas position: those of the SHOWING buffer, and 0 outside the canvas
and where no buffer is SHOWING. -/
def Spec.texel (sc : Scene) (pic : Option Picture) (x y : Int) : Rgb :=
  if 0 ≤ x ∧ x < sc.canvasW ∧ 0 ≤ y ∧ y < sc.canvasH then
    match pic with
    | some p => p.read (y.toNat * 4096 + x.toNat)
    | none => ⟨0, 0, 0⟩
  else ⟨0, 0, 0⟩

/-- R57 to R61: the sample of one colour channel at the position of `x`. -/
def Spec.Sampled (sc : Scene) (pic : Option Picture) (x : PixelStages) (colour : Rgb → Nat) : Prop :=
  (x.degraded = true → ∀ nx ny : Int, Spec.Rounded nx x.sx 16 → Spec.Rounded ny x.sy 16 →
    colour x.sample = colour (Spec.texel sc pic nx ny)) ∧
  (x.degraded = false → ∀ fx fy : Int, fx = x.sx - 16 * x.x → fy = x.sy - 16 * x.y →
    Spec.Rounded (colour x.sample)
      ((16 - fx) * (16 - fy) * colour (Spec.texel sc pic x.x x.y) +
        fx * (16 - fy) * colour (Spec.texel sc pic (x.x + 1) x.y) +
        (16 - fx) * fy * colour (Spec.texel sc pic x.x (x.y + 1)) +
        fx * fy * colour (Spec.texel sc pic (x.x + 1) (x.y + 1))) 256)

/-- R71: a coverage contains a canvas position. -/
def Spec.inside (c : Coverage) (x y : Int) : Prop :=
  (c.left : Int) ≤ x ∧ x < c.right ∧ (c.top : Int) ≤ y ∧ y < c.bottom

/-- R71: the edge factor at distance `d` from an edge with feather `f`. -/
def Spec.edge (d : Int) (f : Nat) : Int := if f = 0 then 4096 else min 4096 ((2 * d + 1) * 2048 / f)

/-- R71, R72: the reach of a coverage at a canvas position. -/
def Spec.Reached (c : Coverage) (x y : Int) (reach : Nat) : Prop :=
  (¬ Spec.inside c x y → reach = 0) ∧
  (Spec.inside c x y → ∃ t1 t2 : Int,
    Spec.Rounded t1 (Spec.edge (x - c.left) c.fLeft * Spec.edge (c.right - 1 - x) c.fRight) 4096 ∧
    Spec.Rounded t2 (t1 * Spec.edge (y - c.top) c.fTop) 4096 ∧
    Spec.Rounded reach (t2 * Spec.edge (c.bottom - 1 - y) c.fBottom) 4096)

/-- R93: the code of a value through an encode table. -/
def Spec.Encoded (table : List Nat) (value code : Nat) : Prop :=
  ∃ q : Int,
    256 * q ≤ ((table.getD (value / 256 + 1) 0 : Nat) - (table.getD (value / 256) 0 : Nat) : Int) *
      (value % 256 : Nat) + 128 ∧
    ((table.getD (value / 256 + 1) 0 : Nat) - (table.getD (value / 256) 0 : Nat) : Int) *
      (value % 256 : Nat) + 128 < 256 * (q + 1) ∧
    (code : Int) = max 0 (min 4095 ((table.getD (value / 256) 0 : Nat) + q))

/-- R81, R79, R91 to R93: the light path of one colour channel. -/
def Spec.Lit (out : OutputScene) (path : PathMode) (level : Nat) (x : PixelStages) (l : LightSet)
    (floor sample gain : Nat) : Prop :=
  (path = .unblended → l.lift = 0) ∧
  (path ≠ .unblended → Spec.Rounded l.lift ((floor : Int) * x.room * x.weight) 16777216) ∧
  (∃ o : Nat, Spec.Rounded o ((sample : Int) * x.gain * x.weight * gain) 17179869184 ∧
    l.linear = min 65535 (o + l.lift)) ∧
  Spec.Rounded l.scaled ((l.linear : Int) * level) 4096 ∧
  Spec.Encoded out.encode l.scaled l.code

/-- R49 to R61, R69 to R76, R79 to R81, R91 to R93: the stages `x` of pixel (u, v) of output `k`, with a
bank, the picture sampled, the four presences, the master level and the path mode. -/
structure Spec.StagesOf (st : BankStore) (pic : Option Picture) (presences : Four Nat) (level : Nat)
    (path : PathMode) (k : Output) (u v : Nat) (x : PixelStages) : Prop where
  flat : path = .flatWarp → x.sx = 16 * u ∧ x.sy = 16 * v ∧ x.gain = 1024 ∧ x.degraded = false
  mesh : path ≠ .flatWarp → Spec.MeshWarped st k u v x
  canvas : x.x * 16 ≤ x.sx ∧ x.sx < x.x * 16 + 16 ∧ x.y * 16 ≤ x.sy ∧ x.sy < x.y * 16 + 16
  red : Spec.Sampled st.scene pic x Rgb.r
  green : Spec.Sampled st.scene pic x Rgb.g
  blue : Spec.Sampled st.scene pic x Rgb.b
  reaches : ∀ j, (x.reaches.get j).presence = presences.get j ∧
    Spec.Reached (st.scene.outs.get j).coverage x.x x.y (x.reaches.get j).reach ∧
    Spec.Rounded (x.reaches.get j).scaled ((x.reaches.get j).reach * (presences.get j : Int)) 4096
  sum : x.sum = (x.reaches.get 0).scaled + (x.reaches.get 1).scaled + (x.reaches.get 2).scaled +
    (x.reaches.get 3).scaled
  weight : path ≠ .unblended →
    (x.sum = 0 → x.weight = 0) ∧
    (0 < x.sum → Spec.Rounded x.weight ((x.reaches.get k).scaled * 4096) x.sum)
  own : path = .unblended → x.weight = (if (x.reaches.get k).reach = 0 then 0 else 4096)
  cover : ∃ n : Output → Nat, x.cover = n 0 + n 1 + n 2 + n 3 ∧ ∀ j,
    (Spec.inside (st.scene.outs.get j).coverage x.x x.y → n j = presences.get j) ∧
    (¬ Spec.inside (st.scene.outs.get j).coverage x.x x.y → n j = 0)
  room : (x.room : Int) = max 0 (4096 * st.scene.ceiling - x.cover)
  litRed : Spec.Lit (st.scene.outs.get k) path level x x.red (st.scene.outs.get k).tone.floor.r
    x.sample.r (st.scene.outs.get k).tone.gain.r
  litGreen : Spec.Lit (st.scene.outs.get k) path level x x.green (st.scene.outs.get k).tone.floor.g
    x.sample.g (st.scene.outs.get k).tone.gain.g
  litBlue : Spec.Lit (st.scene.outs.get k) path level x x.blue (st.scene.outs.get k).tone.floor.b
    x.sample.b (st.scene.outs.get k).tone.gain.b

/-- R120: pixel (u, v) is on a pattern of output `k`. -/
def Spec.OnPattern (sc : Scene) (kind : PatternKind) (k : Output) (u v : Nat) : Prop :=
  match kind with
  | .grid => u % (sc.outs.get k).pitch = 0 ∨ v % (sc.outs.get k).pitch = 0 ∨ u = sc.rasterW - 1 ∨
      v = sc.rasterH - 1
  | .dots => ∃ col row : Nat, col < Spec.pointsAlong sc.rasterW (sc.outs.get k).pitch ∧
      row < Spec.pointsAlong sc.rasterH (sc.outs.get k).pitch ∧
      |(u : Int) - (min (col * (sc.outs.get k).pitch) (sc.rasterW - 1) : Nat)| ≤ 2 ∧
      |(v : Int) - (min (row * (sc.outs.get k).pitch) (sc.rasterH - 1) : Nat)| ≤ 2
  | .flat => True

/-- R94, R119, R120: the code that a port carries at a pixel, by its content; `x` are the pixel's stages. -/
def Spec.Emitted (sc : Scene) (port : PortContent) (x : PixelStages) (k : Output) (u v : Nat)
    (code : Rgb) : Prop :=
  match port with
  | .code0 => code = ⟨0, 0, 0⟩
  | .pattern kind level => (Spec.OnPattern sc kind k u v → code = ⟨level, level, level⟩) ∧
      (¬ Spec.OnPattern sc kind k u v → code = ⟨0, 0, 0⟩)
  | .computed => code = ⟨x.red.code, x.green.code, x.blue.code⟩

/-- R60: the picture that every output samples: that of the SHOWING buffer, if any. -/
def Spec.ShownPicture (s : State) (pic : Option Picture) : Prop :=
  (∀ b, (s.frames.bufs.get b).Showing → pic = some (s.frames.mem.get b)) ∧
  ((∀ b, ¬ (s.frames.bufs.get b).Showing) → pic = none)

/-- R76 and the pixel pipeline. In the normalized blend computation of NORMAL and FLAT_WARP, and of a
probe of PATTERN (R98), the reach sum is the sum of the four scaled reaches, and the weight is
round(q 4096 / S), 0 where S is 0; the four weights at one canvas position sum to 4095..4098, or are all
zero where S is; an output alone there has weight 4096. Every stage of a pixel inside the raster follows
its rule: warp, sample, reach, weight, cover count, lift, linear output, master level and code (R49 to R61,
R69 to R81, R91 to R93). The code a port carries is code 0, the pattern's or the computed one (R94, R120),
and a probe's result holds the stages and the code of the frame in progress, or OUT_OF_RASTER (R97 to
R100). How a canvas position numbers a pixel of a picture is the model's (log 8, DESIGN CHOICE). -/
def Obligations.NormalizedWeightsSumToOne : Prop :=
  (∀ (st : BankStore) (pic : Option Picture) (presences : Four Nat) (level : Nat)
    (path : Output → PathMode) (u v : Output → Nat) (stages : Output → PixelStages),
    (∀ k, path k ≠ .unblended) → (∀ k, presences.get k ≤ 4096) →
    (∀ k, stages k = st.stages pic presences level (path k) k (u k) (v k)) →
    (∀ k, (stages k).x = (stages 0).x ∧ (stages k).y = (stages 0).y) →
    (∀ k, (stages k).sum = ((stages 0).reaches.get 0).scaled + ((stages 0).reaches.get 1).scaled +
        ((stages 0).reaches.get 2).scaled + ((stages 0).reaches.get 3).scaled ∧
      (stages k).sum ≤ 16384 ∧ (stages k).weight ≤ 4096 ∧
      (0 < (stages k).sum → (stages k).weight =
        (((stages k).reaches.get k).scaled * 4096 + (stages k).sum / 2) / (stages k).sum) ∧
      ((stages k).sum = 0 → (stages k).weight = 0) ∧
      (0 < ((stages k).reaches.get k).scaled → (∀ j, j ≠ k → ((stages k).reaches.get j).scaled = 0) →
        (stages k).weight = 4096)) ∧
    (0 < (stages 0).sum →
      4095 ≤ (stages 0).weight + (stages 1).weight + (stages 2).weight + (stages 3).weight ∧
      (stages 0).weight + (stages 1).weight + (stages 2).weight + (stages 3).weight ≤ 4098)) ∧
  (∀ (st : BankStore) (pic : Option Picture) (presences : Four Nat) (level : Nat) (path : PathMode)
    (k : Output) (u v : Nat), st.scene.InRange → u < st.scene.rasterW → v < st.scene.rasterH →
    Spec.StagesOf st pic presences level path k u v (st.stages pic presences level path k u v)) ∧
  ∀ (s : State) (k : Output) (u v : Nat), s.BuffersSound → ∃ pic, Spec.ShownPicture s pic ∧
    (∀ path, s.pixelStages path k u v =
      s.active.stages pic (s.chans.map Channel.framePresence) s.master.level path k u v) ∧
    Spec.Emitted s.active.scene (s.chans.get k).port (s.pixelStages (s.chans.get k).framePath k u v)
      k u v (s.portCode k u v) ∧
    ∃ r, r = s.probeResult k u v ∧ r.output = k ∧ r.u = u ∧ r.v = v ∧
      r.path = (s.chans.get k).framePath ∧ r.revision = s.banks.revision ∧ r.stamp = s.timer.counter ∧
      (u < s.active.scene.rasterW ∧ v < s.active.scene.rasterH →
        r.stages = some (s.pixelStages (s.chans.get k).framePath k u v) ∧
        r.emitted = s.portCode k u v ∧
        (∀ b n w, s.frames.bufs.get b = .showing n w → r.showing = some (b, w)) ∧
        ((∀ b, ¬ (s.frames.bufs.get b).Showing) → r.showing = none)) ∧
      (s.active.scene.rasterW ≤ u ∨ s.active.scene.rasterH ≤ v →
        r.stages = none ∧ r.showing = none ∧ r.emitted = ⟨0, 0, 0⟩)
end

