-- ==== Sys2Proof/Laws/State.lean ====
section
/-! SUPPORT. What each plain update of `State` leaves in each field, true by unfolding; the collections
of four and of three. -/

namespace Sys2Proof

@[simp] theorem Four.get_set_same {α : Type} (f : Four α) (k : Output) (x : α) : (f.set k x).get k = x := by
  match k with
  | 0 => rfl
  | 1 => rfl
  | 2 => rfl
  | 3 => rfl

theorem Four.get_set_other {α : Type} (f : Four α) (k j : Output) (x : α) (h : j ≠ k) :
    (f.set k x).get j = f.get j := by
  revert h
  match k, j with
  | 0, 0 | 1, 1 | 2, 2 | 3, 3 => exact fun h => absurd rfl h
  | 0, 1 | 0, 2 | 0, 3 | 1, 0 | 1, 2 | 1, 3 | 2, 0 | 2, 1 | 2, 3 | 3, 0 | 3, 1 | 3, 2 =>
    exact fun _ => rfl

@[simp] theorem Four.get_all {α : Type} (x : α) (k : Output) : (Four.all x).get k = x := by
  match k with
  | 0 => rfl
  | 1 => rfl
  | 2 => rfl
  | 3 => rfl

@[simp] theorem Four.get_map {α β : Type} (g : α → β) (f : Four α) (k : Output) :
    (f.map g).get k = g (f.get k) := by
  match k with
  | 0 => rfl
  | 1 => rfl
  | 2 => rfl
  | 3 => rfl

theorem Four.eq_of_get {α : Type} (f g : Four α) (h : ∀ k, f.get k = g.get k) : f = g := by
  have h0 := h 0
  have h1 := h 1
  have h2 := h 2
  have h3 := h 3
  cases f
  cases g
  simp only [Four.get] at h0 h1 h2 h3
  simp [h0, h1, h2, h3]

@[simp] theorem Three.get_set_same {α : Type} (t : Three α) (b : BufNo) (x : α) :
    (t.set b x).get b = x := by
  match b with
  | 0 => rfl
  | 1 => rfl
  | 2 => rfl

theorem Three.get_set_other {α : Type} (t : Three α) (b c : BufNo) (x : α) (h : c ≠ b) :
    (t.set b x).get c = t.get c := by
  revert h
  match b, c with
  | 0, 0 | 1, 1 | 2, 2 => exact fun h => absurd rfl h
  | 0, 1 | 0, 2 | 1, 0 | 1, 2 | 2, 0 | 2, 1 => exact fun _ => rfl

@[simp] theorem Three.get_all {α : Type} (x : α) (b : BufNo) : (Three.all x).get b = x := by
  match b with
  | 0 => rfl
  | 1 => rfl
  | 2 => rfl

@[simp] theorem Three.get_map {α β : Type} (g : α → β) (t : Three α) (b : BufNo) :
    (t.map g).get b = g (t.get b) := by
  match b with
  | 0 => rfl
  | 1 => rfl
  | 2 => rfl

end Sys2Proof

namespace Sys2Proof.Machine

@[simp] theorem State.setFlags_pins (s : State) (f : CaptureFlags → CaptureFlags) :
    (s.setFlags f).pins = s.pins := rfl
@[simp] theorem State.setFlags_acq (s : State) (f : CaptureFlags → CaptureFlags) :
    (s.setFlags f).acq = s.acq := rfl
@[simp] theorem State.setFlags_frames (s : State) (f : CaptureFlags → CaptureFlags) :
    (s.setFlags f).frames = s.frames := rfl
@[simp] theorem State.setFlags_timer (s : State) (f : CaptureFlags → CaptureFlags) :
    (s.setFlags f).timer = s.timer := rfl
@[simp] theorem State.setFlags_master (s : State) (f : CaptureFlags → CaptureFlags) :
    (s.setFlags f).master = s.master := rfl
@[simp] theorem State.setFlags_chans (s : State) (f : CaptureFlags → CaptureFlags) :
    (s.setFlags f).chans = s.chans := rfl
@[simp] theorem State.setFlags_banks (s : State) (f : CaptureFlags → CaptureFlags) :
    (s.setFlags f).banks = s.banks := rfl
@[simp] theorem State.setFlags_profiles (s : State) (f : CaptureFlags → CaptureFlags) :
    (s.setFlags f).profiles = s.profiles := rfl
@[simp] theorem State.setFlags_mode (s : State) (f : CaptureFlags → CaptureFlags) :
    (s.setFlags f).mode = s.mode := rfl
@[simp] theorem State.setFlags_link (s : State) (f : CaptureFlags → CaptureFlags) :
    (s.setFlags f).link = s.link := rfl
@[simp] theorem State.setFlags_ind (s : State) (f : CaptureFlags → CaptureFlags) :
    (s.setFlags f).ind = { s.ind with flags := f s.ind.flags } := rfl
@[simp] theorem State.setFlags_probe (s : State) (f : CaptureFlags → CaptureFlags) :
    (s.setFlags f).probe = s.probe := rfl
@[simp] theorem State.setFlags_free (s : State) (f : CaptureFlags → CaptureFlags) :
    (s.setFlags f).free = s.free := rfl
@[simp] theorem State.setFlags_pending (s : State) (f : CaptureFlags → CaptureFlags) :
    (s.setFlags f).pending = s.pending := rfl

@[simp] theorem State.retarget_pins (s : State) : s.retarget.pins = s.pins := rfl
@[simp] theorem State.retarget_acq (s : State) : s.retarget.acq = s.acq := rfl
@[simp] theorem State.retarget_frames (s : State) : s.retarget.frames = s.frames := rfl
@[simp] theorem State.retarget_timer (s : State) : s.retarget.timer = s.timer := rfl
@[simp] theorem State.retarget_master (s : State) :
    s.retarget.master = { s.master with target := s.targetOf } := rfl
@[simp] theorem State.retarget_chans (s : State) : s.retarget.chans = s.chans := rfl
@[simp] theorem State.retarget_banks (s : State) : s.retarget.banks = s.banks := rfl
@[simp] theorem State.retarget_profiles (s : State) : s.retarget.profiles = s.profiles := rfl
@[simp] theorem State.retarget_mode (s : State) : s.retarget.mode = s.mode := rfl
@[simp] theorem State.retarget_link (s : State) : s.retarget.link = s.link := rfl
@[simp] theorem State.retarget_ind (s : State) : s.retarget.ind = s.ind := rfl
@[simp] theorem State.retarget_probe (s : State) : s.retarget.probe = s.probe := rfl
@[simp] theorem State.retarget_free (s : State) : s.retarget.free = s.free := rfl
@[simp] theorem State.retarget_pending (s : State) : s.retarget.pending = s.pending := rfl

@[simp] theorem State.setPendingBank_pins (s : State) (st : BankStore) :
    (s.setPendingBank st).pins = s.pins := rfl
@[simp] theorem State.setPendingBank_acq (s : State) (st : BankStore) :
    (s.setPendingBank st).acq = s.acq := rfl
@[simp] theorem State.setPendingBank_frames (s : State) (st : BankStore) :
    (s.setPendingBank st).frames = s.frames := rfl
@[simp] theorem State.setPendingBank_timer (s : State) (st : BankStore) :
    (s.setPendingBank st).timer = s.timer := rfl
@[simp] theorem State.setPendingBank_master (s : State) (st : BankStore) :
    (s.setPendingBank st).master = s.master := rfl
@[simp] theorem State.setPendingBank_chans (s : State) (st : BankStore) :
    (s.setPendingBank st).chans = s.chans := rfl
@[simp] theorem State.setPendingBank_banks (s : State) (st : BankStore) :
    (s.setPendingBank st).banks = s.banks.setPending st := rfl
@[simp] theorem State.setPendingBank_profiles (s : State) (st : BankStore) :
    (s.setPendingBank st).profiles = s.profiles := rfl
@[simp] theorem State.setPendingBank_mode (s : State) (st : BankStore) :
    (s.setPendingBank st).mode = s.mode := rfl
@[simp] theorem State.setPendingBank_link (s : State) (st : BankStore) :
    (s.setPendingBank st).link = s.link := rfl
@[simp] theorem State.setPendingBank_ind (s : State) (st : BankStore) :
    (s.setPendingBank st).ind = s.ind := rfl
@[simp] theorem State.setPendingBank_probe (s : State) (st : BankStore) :
    (s.setPendingBank st).probe = s.probe := rfl
@[simp] theorem State.setPendingBank_free (s : State) (st : BankStore) :
    (s.setPendingBank st).free = s.free := rfl
@[simp] theorem State.setPendingBank_pending (s : State) (st : BankStore) :
    (s.setPendingBank st).pending = s.pending := rfl

@[simp] theorem State.setPendState_pins (s : State) (p : PendState) : (s.setPendState p).pins = s.pins := rfl
@[simp] theorem State.setPendState_acq (s : State) (p : PendState) : (s.setPendState p).acq = s.acq := rfl
@[simp] theorem State.setPendState_frames (s : State) (p : PendState) :
    (s.setPendState p).frames = s.frames := rfl
@[simp] theorem State.setPendState_timer (s : State) (p : PendState) :
    (s.setPendState p).timer = s.timer := rfl
@[simp] theorem State.setPendState_master (s : State) (p : PendState) :
    (s.setPendState p).master = s.master := rfl
@[simp] theorem State.setPendState_chans (s : State) (p : PendState) :
    (s.setPendState p).chans = s.chans := rfl
@[simp] theorem State.setPendState_banks (s : State) (p : PendState) :
    (s.setPendState p).banks = { s.banks with pendState := p } := rfl
@[simp] theorem State.setPendState_profiles (s : State) (p : PendState) :
    (s.setPendState p).profiles = s.profiles := rfl
@[simp] theorem State.setPendState_mode (s : State) (p : PendState) : (s.setPendState p).mode = s.mode := rfl
@[simp] theorem State.setPendState_link (s : State) (p : PendState) : (s.setPendState p).link = s.link := rfl
@[simp] theorem State.setPendState_ind (s : State) (p : PendState) : (s.setPendState p).ind = s.ind := rfl
@[simp] theorem State.setPendState_probe (s : State) (p : PendState) :
    (s.setPendState p).probe = s.probe := rfl
@[simp] theorem State.setPendState_free (s : State) (p : PendState) : (s.setPendState p).free = s.free := rfl
@[simp] theorem State.setPendState_pending (s : State) (p : PendState) :
    (s.setPendState p).pending = s.pending := rfl

@[simp] theorem State.setBuf_pins (s : State) (b : BufNo) (r : BufRec) : (s.setBuf b r).pins = s.pins := rfl
@[simp] theorem State.setBuf_acq (s : State) (b : BufNo) (r : BufRec) : (s.setBuf b r).acq = s.acq := rfl
@[simp] theorem State.setBuf_frames (s : State) (b : BufNo) (r : BufRec) :
    (s.setBuf b r).frames = { s.frames with bufs := s.frames.bufs.set b r } := rfl
@[simp] theorem State.setBuf_timer (s : State) (b : BufNo) (r : BufRec) :
    (s.setBuf b r).timer = s.timer := rfl
@[simp] theorem State.setBuf_master (s : State) (b : BufNo) (r : BufRec) :
    (s.setBuf b r).master = s.master := rfl
@[simp] theorem State.setBuf_chans (s : State) (b : BufNo) (r : BufRec) :
    (s.setBuf b r).chans = s.chans := rfl
@[simp] theorem State.setBuf_banks (s : State) (b : BufNo) (r : BufRec) :
    (s.setBuf b r).banks = s.banks := rfl
@[simp] theorem State.setBuf_profiles (s : State) (b : BufNo) (r : BufRec) :
    (s.setBuf b r).profiles = s.profiles := rfl
@[simp] theorem State.setBuf_mode (s : State) (b : BufNo) (r : BufRec) : (s.setBuf b r).mode = s.mode := rfl
@[simp] theorem State.setBuf_link (s : State) (b : BufNo) (r : BufRec) : (s.setBuf b r).link = s.link := rfl
@[simp] theorem State.setBuf_ind (s : State) (b : BufNo) (r : BufRec) : (s.setBuf b r).ind = s.ind := rfl
@[simp] theorem State.setBuf_probe (s : State) (b : BufNo) (r : BufRec) :
    (s.setBuf b r).probe = s.probe := rfl
@[simp] theorem State.setBuf_free (s : State) (b : BufNo) (r : BufRec) : (s.setBuf b r).free = s.free := rfl
@[simp] theorem State.setBuf_pending (s : State) (b : BufNo) (r : BufRec) :
    (s.setBuf b r).pending = s.pending := rfl

@[simp] theorem State.dropWrite_pins (s : State) : s.dropWrite.pins = s.pins := rfl
@[simp] theorem State.dropWrite_acq (s : State) :
    s.dropWrite.acq = { s.acq with frame := s.acq.frame.map fun f => { f with write := none } } := rfl
@[simp] theorem State.dropWrite_frames (s : State) : s.dropWrite.frames = s.frames := rfl
@[simp] theorem State.dropWrite_timer (s : State) : s.dropWrite.timer = s.timer := rfl
@[simp] theorem State.dropWrite_master (s : State) : s.dropWrite.master = s.master := rfl
@[simp] theorem State.dropWrite_chans (s : State) : s.dropWrite.chans = s.chans := rfl
@[simp] theorem State.dropWrite_banks (s : State) : s.dropWrite.banks = s.banks := rfl
@[simp] theorem State.dropWrite_profiles (s : State) : s.dropWrite.profiles = s.profiles := rfl
@[simp] theorem State.dropWrite_mode (s : State) : s.dropWrite.mode = s.mode := rfl
@[simp] theorem State.dropWrite_link (s : State) : s.dropWrite.link = s.link := rfl
@[simp] theorem State.dropWrite_ind (s : State) : s.dropWrite.ind = s.ind := rfl
@[simp] theorem State.dropWrite_probe (s : State) : s.dropWrite.probe = s.probe := rfl
@[simp] theorem State.dropWrite_free (s : State) : s.dropWrite.free = s.free := rfl
@[simp] theorem State.dropWrite_pending (s : State) : s.dropWrite.pending = s.pending := rfl

@[simp] theorem State.emptyBuffers_pins (s : State) : s.emptyBuffers.pins = s.pins := rfl
@[simp] theorem State.emptyBuffers_acq (s : State) : s.emptyBuffers.acq = s.acq := rfl
@[simp] theorem State.emptyBuffers_frames (s : State) :
    s.emptyBuffers.frames = { s.frames with bufs := Three.all .empty } := rfl
@[simp] theorem State.emptyBuffers_timer (s : State) : s.emptyBuffers.timer = s.timer := rfl
@[simp] theorem State.emptyBuffers_master (s : State) : s.emptyBuffers.master = s.master := rfl
@[simp] theorem State.emptyBuffers_chans (s : State) : s.emptyBuffers.chans = s.chans := rfl
@[simp] theorem State.emptyBuffers_banks (s : State) : s.emptyBuffers.banks = s.banks := rfl
@[simp] theorem State.emptyBuffers_profiles (s : State) : s.emptyBuffers.profiles = s.profiles := rfl
@[simp] theorem State.emptyBuffers_mode (s : State) : s.emptyBuffers.mode = s.mode := rfl
@[simp] theorem State.emptyBuffers_link (s : State) : s.emptyBuffers.link = s.link := rfl
@[simp] theorem State.emptyBuffers_ind (s : State) : s.emptyBuffers.ind = s.ind := rfl
@[simp] theorem State.emptyBuffers_probe (s : State) : s.emptyBuffers.probe = s.probe := rfl
@[simp] theorem State.emptyBuffers_free (s : State) : s.emptyBuffers.free = s.free := rfl
@[simp] theorem State.emptyBuffers_pending (s : State) : s.emptyBuffers.pending = s.pending := rfl

@[simp] theorem State.bumpFree_pins (s : State) : s.bumpFree.pins = s.pins := rfl
@[simp] theorem State.bumpFree_acq (s : State) : s.bumpFree.acq = s.acq := rfl
@[simp] theorem State.bumpFree_frames (s : State) : s.bumpFree.frames = s.frames := rfl
@[simp] theorem State.bumpFree_timer (s : State) : s.bumpFree.timer = s.timer := rfl
@[simp] theorem State.bumpFree_master (s : State) : s.bumpFree.master = s.master := rfl
@[simp] theorem State.bumpFree_chans (s : State) : s.bumpFree.chans = s.chans := rfl
@[simp] theorem State.bumpFree_banks (s : State) : s.bumpFree.banks = s.banks := rfl
@[simp] theorem State.bumpFree_profiles (s : State) : s.bumpFree.profiles = s.profiles := rfl
@[simp] theorem State.bumpFree_mode (s : State) : s.bumpFree.mode = s.mode := rfl
@[simp] theorem State.bumpFree_link (s : State) : s.bumpFree.link = s.link := rfl
@[simp] theorem State.bumpFree_ind (s : State) : s.bumpFree.ind = s.ind := rfl
@[simp] theorem State.bumpFree_probe (s : State) : s.bumpFree.probe = s.probe := rfl
@[simp] theorem State.bumpFree_free (s : State) : s.bumpFree.free = s.free + 1 := rfl
@[simp] theorem State.bumpFree_pending (s : State) : s.bumpFree.pending = s.pending := rfl

@[simp] theorem State.setTarget_pins (s : State) (t : Nat) : (s.setTarget t).pins = s.pins := rfl
@[simp] theorem State.setTarget_acq (s : State) (t : Nat) :
    (s.setTarget t).acq = { s.acq with target := some t } := rfl
@[simp] theorem State.setTarget_frames (s : State) (t : Nat) : (s.setTarget t).frames = s.frames := rfl
@[simp] theorem State.setTarget_timer (s : State) (t : Nat) : (s.setTarget t).timer = s.timer := rfl
@[simp] theorem State.setTarget_master (s : State) (t : Nat) : (s.setTarget t).master = s.master := rfl
@[simp] theorem State.setTarget_chans (s : State) (t : Nat) : (s.setTarget t).chans = s.chans := rfl
@[simp] theorem State.setTarget_banks (s : State) (t : Nat) : (s.setTarget t).banks = s.banks := rfl
@[simp] theorem State.setTarget_profiles (s : State) (t : Nat) : (s.setTarget t).profiles = s.profiles := rfl
@[simp] theorem State.setTarget_mode (s : State) (t : Nat) : (s.setTarget t).mode = s.mode := rfl
@[simp] theorem State.setTarget_link (s : State) (t : Nat) : (s.setTarget t).link = s.link := rfl
@[simp] theorem State.setTarget_ind (s : State) (t : Nat) : (s.setTarget t).ind = s.ind := rfl
@[simp] theorem State.setTarget_probe (s : State) (t : Nat) : (s.setTarget t).probe = s.probe := rfl
@[simp] theorem State.setTarget_free (s : State) (t : Nat) : (s.setTarget t).free = s.free := rfl
@[simp] theorem State.setTarget_pending (s : State) (t : Nat) : (s.setTarget t).pending = s.pending := rfl

@[simp] theorem State.setFrame_pins (s : State) (f : Option InFrame) : (s.setFrame f).pins = s.pins := rfl
@[simp] theorem State.setFrame_acq (s : State) (f : Option InFrame) :
    (s.setFrame f).acq = { s.acq with frame := f } := rfl
@[simp] theorem State.setFrame_frames (s : State) (f : Option InFrame) :
    (s.setFrame f).frames = s.frames := rfl
@[simp] theorem State.setFrame_timer (s : State) (f : Option InFrame) : (s.setFrame f).timer = s.timer := rfl
@[simp] theorem State.setFrame_master (s : State) (f : Option InFrame) :
    (s.setFrame f).master = s.master := rfl
@[simp] theorem State.setFrame_chans (s : State) (f : Option InFrame) : (s.setFrame f).chans = s.chans := rfl
@[simp] theorem State.setFrame_banks (s : State) (f : Option InFrame) : (s.setFrame f).banks = s.banks := rfl
@[simp] theorem State.setFrame_profiles (s : State) (f : Option InFrame) :
    (s.setFrame f).profiles = s.profiles := rfl
@[simp] theorem State.setFrame_mode (s : State) (f : Option InFrame) : (s.setFrame f).mode = s.mode := rfl
@[simp] theorem State.setFrame_link (s : State) (f : Option InFrame) : (s.setFrame f).link = s.link := rfl
@[simp] theorem State.setFrame_ind (s : State) (f : Option InFrame) : (s.setFrame f).ind = s.ind := rfl
@[simp] theorem State.setFrame_probe (s : State) (f : Option InFrame) : (s.setFrame f).probe = s.probe := rfl
@[simp] theorem State.setFrame_free (s : State) (f : Option InFrame) : (s.setFrame f).free = s.free := rfl
@[simp] theorem State.setFrame_pending (s : State) (f : Option InFrame) :
    (s.setFrame f).pending = s.pending := rfl

@[simp] theorem State.setChan_pins (s : State) (k : Output) (c : Channel) :
    (s.setChan k c).pins = s.pins := rfl
@[simp] theorem State.setChan_acq (s : State) (k : Output) (c : Channel) : (s.setChan k c).acq = s.acq := rfl
@[simp] theorem State.setChan_frames (s : State) (k : Output) (c : Channel) :
    (s.setChan k c).frames = s.frames := rfl
@[simp] theorem State.setChan_timer (s : State) (k : Output) (c : Channel) :
    (s.setChan k c).timer = s.timer := rfl
@[simp] theorem State.setChan_master (s : State) (k : Output) (c : Channel) :
    (s.setChan k c).master = s.master := rfl
@[simp] theorem State.setChan_chans (s : State) (k : Output) (c : Channel) :
    (s.setChan k c).chans = s.chans.set k c := rfl
@[simp] theorem State.setChan_banks (s : State) (k : Output) (c : Channel) :
    (s.setChan k c).banks = s.banks := rfl
@[simp] theorem State.setChan_profiles (s : State) (k : Output) (c : Channel) :
    (s.setChan k c).profiles = s.profiles := rfl
@[simp] theorem State.setChan_mode (s : State) (k : Output) (c : Channel) :
    (s.setChan k c).mode = s.mode := rfl
@[simp] theorem State.setChan_link (s : State) (k : Output) (c : Channel) :
    (s.setChan k c).link = s.link := rfl
@[simp] theorem State.setChan_ind (s : State) (k : Output) (c : Channel) : (s.setChan k c).ind = s.ind := rfl
@[simp] theorem State.setChan_probe (s : State) (k : Output) (c : Channel) :
    (s.setChan k c).probe = s.probe := rfl
@[simp] theorem State.setChan_free (s : State) (k : Output) (c : Channel) :
    (s.setChan k c).free = s.free := rfl
@[simp] theorem State.setChan_pending (s : State) (k : Output) (c : Channel) :
    (s.setChan k c).pending = s.pending := rfl

@[simp] theorem State.setMode_pins (s : State) (m : PartMode) : (s.setMode m).pins = s.pins := rfl
@[simp] theorem State.setMode_acq (s : State) (m : PartMode) : (s.setMode m).acq = s.acq := rfl
@[simp] theorem State.setMode_frames (s : State) (m : PartMode) : (s.setMode m).frames = s.frames := rfl
@[simp] theorem State.setMode_timer (s : State) (m : PartMode) : (s.setMode m).timer = s.timer := rfl
@[simp] theorem State.setMode_master (s : State) (m : PartMode) : (s.setMode m).master = s.master := rfl
@[simp] theorem State.setMode_chans (s : State) (m : PartMode) : (s.setMode m).chans = s.chans := rfl
@[simp] theorem State.setMode_banks (s : State) (m : PartMode) : (s.setMode m).banks = s.banks := rfl
@[simp] theorem State.setMode_profiles (s : State) (m : PartMode) : (s.setMode m).profiles = s.profiles := rfl
@[simp] theorem State.setMode_mode (s : State) (m : PartMode) :
    (s.setMode m).mode = { s.mode with mode := m } := rfl
@[simp] theorem State.setMode_link (s : State) (m : PartMode) : (s.setMode m).link = s.link := rfl
@[simp] theorem State.setMode_ind (s : State) (m : PartMode) : (s.setMode m).ind = s.ind := rfl
@[simp] theorem State.setMode_probe (s : State) (m : PartMode) : (s.setMode m).probe = s.probe := rfl
@[simp] theorem State.setMode_free (s : State) (m : PartMode) : (s.setMode m).free = s.free := rfl
@[simp] theorem State.setMode_pending (s : State) (m : PartMode) : (s.setMode m).pending = s.pending := rfl

@[simp] theorem State.onProfiles_pins (s : State) (f : ProfileStore → ProfileStore) :
    (s.onProfiles f).pins = s.pins := rfl
@[simp] theorem State.onProfiles_acq (s : State) (f : ProfileStore → ProfileStore) :
    (s.onProfiles f).acq = s.acq := rfl
@[simp] theorem State.onProfiles_frames (s : State) (f : ProfileStore → ProfileStore) :
    (s.onProfiles f).frames = s.frames := rfl
@[simp] theorem State.onProfiles_timer (s : State) (f : ProfileStore → ProfileStore) :
    (s.onProfiles f).timer = s.timer := rfl
@[simp] theorem State.onProfiles_master (s : State) (f : ProfileStore → ProfileStore) :
    (s.onProfiles f).master = s.master := rfl
@[simp] theorem State.onProfiles_chans (s : State) (f : ProfileStore → ProfileStore) :
    (s.onProfiles f).chans = s.chans := rfl
@[simp] theorem State.onProfiles_banks (s : State) (f : ProfileStore → ProfileStore) :
    (s.onProfiles f).banks = s.banks := rfl
@[simp] theorem State.onProfiles_profiles (s : State) (f : ProfileStore → ProfileStore) :
    (s.onProfiles f).profiles = f s.profiles := rfl
@[simp] theorem State.onProfiles_mode (s : State) (f : ProfileStore → ProfileStore) :
    (s.onProfiles f).mode = s.mode := rfl
@[simp] theorem State.onProfiles_link (s : State) (f : ProfileStore → ProfileStore) :
    (s.onProfiles f).link = s.link := rfl
@[simp] theorem State.onProfiles_ind (s : State) (f : ProfileStore → ProfileStore) :
    (s.onProfiles f).ind = s.ind := rfl
@[simp] theorem State.onProfiles_probe (s : State) (f : ProfileStore → ProfileStore) :
    (s.onProfiles f).probe = s.probe := rfl
@[simp] theorem State.onProfiles_free (s : State) (f : ProfileStore → ProfileStore) :
    (s.onProfiles f).free = s.free := rfl
@[simp] theorem State.onProfiles_pending (s : State) (f : ProfileStore → ProfileStore) :
    (s.onProfiles f).pending = s.pending := rfl

@[simp] theorem State.presentValid_pins (s : State) (valid : Bool) :
    (s.presentValid valid).pins = { s.pins with inputValid := valid } := rfl
@[simp] theorem State.presentValid_acq (s : State) (valid : Bool) : (s.presentValid valid).acq = s.acq := rfl
@[simp] theorem State.presentValid_frames (s : State) (valid : Bool) :
    (s.presentValid valid).frames = s.frames := rfl
@[simp] theorem State.presentValid_timer (s : State) (valid : Bool) :
    (s.presentValid valid).timer = s.timer := rfl
@[simp] theorem State.presentValid_master (s : State) (valid : Bool) :
    (s.presentValid valid).master = s.master := rfl
@[simp] theorem State.presentValid_chans (s : State) (valid : Bool) :
    (s.presentValid valid).chans = s.chans := rfl
@[simp] theorem State.presentValid_banks (s : State) (valid : Bool) :
    (s.presentValid valid).banks = s.banks := rfl
@[simp] theorem State.presentValid_profiles (s : State) (valid : Bool) :
    (s.presentValid valid).profiles = s.profiles := rfl
@[simp] theorem State.presentValid_mode (s : State) (valid : Bool) :
    (s.presentValid valid).mode = s.mode := rfl
@[simp] theorem State.presentValid_link (s : State) (valid : Bool) :
    (s.presentValid valid).link = s.link := rfl
@[simp] theorem State.presentValid_ind (s : State) (valid : Bool) : (s.presentValid valid).ind = s.ind := rfl
@[simp] theorem State.presentValid_probe (s : State) (valid : Bool) :
    (s.presentValid valid).probe = s.probe := rfl
@[simp] theorem State.presentValid_free (s : State) (valid : Bool) :
    (s.presentValid valid).free = s.free := rfl
@[simp] theorem State.presentValid_pending (s : State) (valid : Bool) :
    (s.presentValid valid).pending = s.pending := rfl

@[simp] theorem State.setRx_pins (s : State) (r : Receiver) : (s.setRx r).pins = s.pins := rfl
@[simp] theorem State.setRx_acq (s : State) (r : Receiver) : (s.setRx r).acq = s.acq := rfl
@[simp] theorem State.setRx_frames (s : State) (r : Receiver) : (s.setRx r).frames = s.frames := rfl
@[simp] theorem State.setRx_timer (s : State) (r : Receiver) : (s.setRx r).timer = s.timer := rfl
@[simp] theorem State.setRx_master (s : State) (r : Receiver) : (s.setRx r).master = s.master := rfl
@[simp] theorem State.setRx_chans (s : State) (r : Receiver) : (s.setRx r).chans = s.chans := rfl
@[simp] theorem State.setRx_banks (s : State) (r : Receiver) : (s.setRx r).banks = s.banks := rfl
@[simp] theorem State.setRx_profiles (s : State) (r : Receiver) : (s.setRx r).profiles = s.profiles := rfl
@[simp] theorem State.setRx_mode (s : State) (r : Receiver) : (s.setRx r).mode = s.mode := rfl
@[simp] theorem State.setRx_link (s : State) (r : Receiver) :
    (s.setRx r).link = { s.link with rx := r } := rfl
@[simp] theorem State.setRx_ind (s : State) (r : Receiver) : (s.setRx r).ind = s.ind := rfl
@[simp] theorem State.setRx_probe (s : State) (r : Receiver) : (s.setRx r).probe = s.probe := rfl
@[simp] theorem State.setRx_free (s : State) (r : Receiver) : (s.setRx r).free = s.free := rfl
@[simp] theorem State.setRx_pending (s : State) (r : Receiver) : (s.setRx r).pending = s.pending := rfl

end Sys2Proof.Machine
end

