-- ==== Sys2Proof/Laws/Frames.lean ====
section
/-! SUPPORT. For each shared operation, the parts of `State` it cannot change. -/

namespace Sys2Proof.Machine

/-! ### Indications, flags and replies -/

@[simp] theorem State.flagInputLost_frame (s : State) :
    s.flagInputLost.pins = s.pins ∧ s.flagInputLost.acq = s.acq ∧
    s.flagInputLost.frames = s.frames ∧ s.flagInputLost.timer = s.timer ∧
    s.flagInputLost.master = s.master ∧ s.flagInputLost.chans = s.chans ∧
    s.flagInputLost.banks = s.banks ∧ s.flagInputLost.profiles = s.profiles ∧
    s.flagInputLost.mode = s.mode ∧ s.flagInputLost.link = s.link ∧
    s.flagInputLost.probe = s.probe ∧ s.flagInputLost.free = s.free ∧
    s.flagInputLost.pending = s.pending := by
  simp [State.flagInputLost]

@[simp] theorem State.flagAcqTimeout_frame (s : State) :
    s.flagAcqTimeout.pins = s.pins ∧ s.flagAcqTimeout.acq = s.acq ∧
    s.flagAcqTimeout.frames = s.frames ∧ s.flagAcqTimeout.timer = s.timer ∧
    s.flagAcqTimeout.master = s.master ∧ s.flagAcqTimeout.chans = s.chans ∧
    s.flagAcqTimeout.banks = s.banks ∧ s.flagAcqTimeout.profiles = s.profiles ∧
    s.flagAcqTimeout.mode = s.mode ∧ s.flagAcqTimeout.link = s.link ∧
    s.flagAcqTimeout.probe = s.probe ∧ s.flagAcqTimeout.free = s.free ∧
    s.flagAcqTimeout.pending = s.pending := by
  simp [State.flagAcqTimeout]

@[simp] theorem State.flagSlip_frame (s : State) :
    s.flagSlip.pins = s.pins ∧ s.flagSlip.acq = s.acq ∧ s.flagSlip.frames = s.frames ∧
    s.flagSlip.timer = s.timer ∧ s.flagSlip.master = s.master ∧ s.flagSlip.chans = s.chans ∧
    s.flagSlip.banks = s.banks ∧ s.flagSlip.profiles = s.profiles ∧ s.flagSlip.mode = s.mode ∧
    s.flagSlip.link = s.link ∧ s.flagSlip.probe = s.probe ∧ s.flagSlip.free = s.free ∧
    s.flagSlip.pending = s.pending := by
  simp [State.flagSlip]

@[simp] theorem State.flagTorn_frame (s : State) :
    s.flagTorn.pins = s.pins ∧ s.flagTorn.acq = s.acq ∧ s.flagTorn.frames = s.frames ∧
    s.flagTorn.timer = s.timer ∧ s.flagTorn.master = s.master ∧ s.flagTorn.chans = s.chans ∧
    s.flagTorn.banks = s.banks ∧ s.flagTorn.profiles = s.profiles ∧ s.flagTorn.mode = s.mode ∧
    s.flagTorn.link = s.link ∧ s.flagTorn.probe = s.probe ∧ s.flagTorn.free = s.free ∧
    s.flagTorn.pending = s.pending := by
  simp [State.flagTorn]

@[simp] theorem State.flagLinkDiscard_frame (s : State) :
    s.flagLinkDiscard.pins = s.pins ∧ s.flagLinkDiscard.acq = s.acq ∧
    s.flagLinkDiscard.frames = s.frames ∧ s.flagLinkDiscard.timer = s.timer ∧
    s.flagLinkDiscard.master = s.master ∧ s.flagLinkDiscard.chans = s.chans ∧
    s.flagLinkDiscard.banks = s.banks ∧ s.flagLinkDiscard.profiles = s.profiles ∧
    s.flagLinkDiscard.mode = s.mode ∧ s.flagLinkDiscard.link = s.link ∧
    s.flagLinkDiscard.probe = s.probe ∧ s.flagLinkDiscard.free = s.free ∧
    s.flagLinkDiscard.pending = s.pending := by
  simp [State.flagLinkDiscard]

@[simp] theorem State.flagOverrun_frame (s : State) :
    s.flagOverrun.pins = s.pins ∧ s.flagOverrun.acq = s.acq ∧ s.flagOverrun.frames = s.frames ∧
    s.flagOverrun.timer = s.timer ∧ s.flagOverrun.master = s.master ∧
    s.flagOverrun.chans = s.chans ∧ s.flagOverrun.banks = s.banks ∧
    s.flagOverrun.profiles = s.profiles ∧ s.flagOverrun.mode = s.mode ∧
    s.flagOverrun.link = s.link ∧ s.flagOverrun.probe = s.probe ∧ s.flagOverrun.free = s.free ∧
    s.flagOverrun.pending = s.pending := by
  simp [State.flagOverrun]

@[simp] theorem State.flagProfileBad_frame (s : State) :
    s.flagProfileBad.pins = s.pins ∧ s.flagProfileBad.acq = s.acq ∧
    s.flagProfileBad.frames = s.frames ∧ s.flagProfileBad.timer = s.timer ∧
    s.flagProfileBad.master = s.master ∧ s.flagProfileBad.chans = s.chans ∧
    s.flagProfileBad.banks = s.banks ∧ s.flagProfileBad.profiles = s.profiles ∧
    s.flagProfileBad.mode = s.mode ∧ s.flagProfileBad.link = s.link ∧
    s.flagProfileBad.probe = s.probe ∧ s.flagProfileBad.free = s.free ∧
    s.flagProfileBad.pending = s.pending := by
  simp [State.flagProfileBad]

@[simp] theorem State.clearFlags_frame (s : State) :
    s.clearFlags.pins = s.pins ∧ s.clearFlags.acq = s.acq ∧ s.clearFlags.frames = s.frames ∧
    s.clearFlags.timer = s.timer ∧ s.clearFlags.master = s.master ∧ s.clearFlags.chans = s.chans ∧
    s.clearFlags.banks = s.banks ∧ s.clearFlags.profiles = s.profiles ∧ s.clearFlags.mode = s.mode ∧
    s.clearFlags.link = s.link ∧ s.clearFlags.probe = s.probe ∧ s.clearFlags.free = s.free ∧
    s.clearFlags.pending = s.pending := by
  simp [State.clearFlags]

@[simp] theorem State.flagOutputLost_frame (s : State) (k : Output) :
    (s.flagOutputLost k).pins = s.pins ∧ (s.flagOutputLost k).acq = s.acq ∧
    (s.flagOutputLost k).frames = s.frames ∧ (s.flagOutputLost k).timer = s.timer ∧
    (s.flagOutputLost k).master = s.master ∧ (s.flagOutputLost k).chans = s.chans ∧
    (s.flagOutputLost k).banks = s.banks ∧ (s.flagOutputLost k).profiles = s.profiles ∧
    (s.flagOutputLost k).mode = s.mode ∧ (s.flagOutputLost k).link = s.link ∧
    (s.flagOutputLost k).probe = s.probe ∧ (s.flagOutputLost k).free = s.free ∧
    (s.flagOutputLost k).pending = s.pending := by
  simp [State.flagOutputLost]

@[simp] theorem State.post_frame (s : State) (b : IndBody) :
    (s.post b).pins = s.pins ∧ (s.post b).acq = s.acq ∧ (s.post b).frames = s.frames ∧
    (s.post b).timer = s.timer ∧ (s.post b).master = s.master ∧ (s.post b).chans = s.chans ∧
    (s.post b).banks = s.banks ∧ (s.post b).profiles = s.profiles ∧ (s.post b).mode = s.mode ∧
    (s.post b).link = s.link ∧ (s.post b).probe = s.probe ∧ (s.post b).free = s.free ∧
    (s.post b).pending = s.pending := by
  unfold State.post
  split
  · simp
  · split <;> simp

@[simp] theorem State.answer_frame (s : State) (st : Status) (body : List Byte) :
    (s.answer st body).pins = s.pins ∧ (s.answer st body).acq = s.acq ∧
    (s.answer st body).frames = s.frames ∧ (s.answer st body).timer = s.timer ∧
    (s.answer st body).master = s.master ∧ (s.answer st body).chans = s.chans ∧
    (s.answer st body).banks = s.banks ∧ (s.answer st body).profiles = s.profiles ∧
    (s.answer st body).mode = s.mode ∧ (s.answer st body).ind = s.ind ∧
    (s.answer st body).probe = s.probe ∧ (s.answer st body).free = s.free ∧
    (s.answer st body).pending = s.pending := by
  unfold State.answer
  split <;> simp

@[simp] theorem State.refuse_frame (s : State) (st : Status) :
    (s.refuse st).pins = s.pins ∧ (s.refuse st).acq = s.acq ∧ (s.refuse st).frames = s.frames ∧
    (s.refuse st).timer = s.timer ∧ (s.refuse st).master = s.master ∧
    (s.refuse st).chans = s.chans ∧ (s.refuse st).banks = s.banks ∧
    (s.refuse st).profiles = s.profiles ∧ (s.refuse st).mode = s.mode ∧ (s.refuse st).ind = s.ind ∧
    (s.refuse st).probe = s.probe ∧ (s.refuse st).free = s.free ∧
    (s.refuse st).pending = s.pending := by
  simp [State.refuse]

@[simp] theorem State.abandonWrite_frame (s : State) :
    s.abandonWrite.pins = s.pins ∧ s.abandonWrite.timer = s.timer ∧
    s.abandonWrite.master = s.master ∧ s.abandonWrite.chans = s.chans ∧
    s.abandonWrite.banks = s.banks ∧ s.abandonWrite.profiles = s.profiles ∧
    s.abandonWrite.mode = s.mode ∧ s.abandonWrite.link = s.link ∧ s.abandonWrite.ind = s.ind ∧
    s.abandonWrite.probe = s.probe ∧ s.abandonWrite.free = s.free ∧
    s.abandonWrite.pending = s.pending := by
  unfold State.abandonWrite
  split <;> simp

/-! ### Acquisition -/

@[simp] theorem State.leaveLocked_frame (s : State) :
    s.leaveLocked.pins = s.pins ∧ s.leaveLocked.master = s.master ∧ s.leaveLocked.chans = s.chans ∧
    s.leaveLocked.banks = s.banks ∧ s.leaveLocked.profiles = s.profiles ∧
    s.leaveLocked.mode = s.mode ∧ s.leaveLocked.link = s.link ∧ s.leaveLocked.ind = s.ind ∧
    s.leaveLocked.probe = s.probe ∧ s.leaveLocked.free = s.free ∧
    s.leaveLocked.pending = s.pending := by
  simp [State.leaveLocked]

@[simp] theorem State.moveTo_frame (s : State) (new : AcqState) (window : List FrameRecord) :
    (s.moveTo new window).pins = s.pins ∧ (s.moveTo new window).master = s.master ∧
    (s.moveTo new window).chans = s.chans ∧ (s.moveTo new window).banks = s.banks ∧
    (s.moveTo new window).profiles = s.profiles ∧ (s.moveTo new window).mode = s.mode ∧
    (s.moveTo new window).link = s.link ∧ (s.moveTo new window).probe = s.probe ∧
    (s.moveTo new window).free = s.free ∧ (s.moveTo new window).pending = s.pending := by
  unfold State.moveTo
  dsimp only
  repeat' split
  all_goals simp

@[simp] theorem State.formatCheck_frame (s : State) :
    s.formatCheck.pins = s.pins ∧ s.formatCheck.master = s.master ∧ s.formatCheck.chans = s.chans ∧
    s.formatCheck.banks = s.banks ∧ s.formatCheck.profiles = s.profiles ∧
    s.formatCheck.mode = s.mode ∧ s.formatCheck.link = s.link ∧ s.formatCheck.probe = s.probe ∧
    s.formatCheck.free = s.free ∧ s.formatCheck.pending = s.pending := by
  unfold State.formatCheck
  dsimp only
  repeat' split
  all_goals simp

@[simp] theorem State.newCanvas_frame (s : State) :
    s.newCanvas.pins = s.pins ∧ s.newCanvas.master = s.master ∧ s.newCanvas.chans = s.chans ∧
    s.newCanvas.banks = s.banks ∧ s.newCanvas.profiles = s.profiles ∧ s.newCanvas.mode = s.mode ∧
    s.newCanvas.link = s.link ∧ s.newCanvas.probe = s.probe ∧ s.newCanvas.free = s.free ∧
    s.newCanvas.pending = s.pending := by
  unfold State.newCanvas
  repeat' split
  all_goals simp

@[simp] theorem State.recadence_frame (s : State) :
    s.recadence.pins = s.pins ∧ s.recadence.master = s.master ∧ s.recadence.chans = s.chans ∧
    s.recadence.banks = s.banks ∧ s.recadence.profiles = s.profiles ∧ s.recadence.mode = s.mode ∧
    s.recadence.link = s.link ∧ s.recadence.probe = s.probe ∧ s.recadence.free = s.free ∧
    s.recadence.pending = s.pending := by
  unfold State.recadence
  dsimp only
  repeat' split
  all_goals simp

@[simp] theorem State.applyInputControls_frame (s : State) (c : InputControls) :
    (s.applyInputControls c).pins = s.pins ∧ (s.applyInputControls c).master = s.master ∧
    (s.applyInputControls c).chans = s.chans ∧ (s.applyInputControls c).banks = s.banks ∧
    (s.applyInputControls c).profiles = s.profiles ∧ (s.applyInputControls c).mode = s.mode ∧
    (s.applyInputControls c).link = s.link ∧ (s.applyInputControls c).probe = s.probe ∧
    (s.applyInputControls c).free = s.free ∧ (s.applyInputControls c).pending = s.pending := by
  unfold State.applyInputControls
  dsimp only
  repeat' split
  all_goals simp

@[simp] theorem State.takeRecord_frame (s : State) (r : Option FrameRecord) :
    (s.takeRecord r).pins = s.pins ∧ (s.takeRecord r).master = s.master ∧
    (s.takeRecord r).chans = s.chans ∧ (s.takeRecord r).banks = s.banks ∧
    (s.takeRecord r).profiles = s.profiles ∧ (s.takeRecord r).mode = s.mode ∧
    (s.takeRecord r).link = s.link ∧ (s.takeRecord r).probe = s.probe ∧
    (s.takeRecord r).free = s.free ∧ (s.takeRecord r).pending = s.pending := by
  unfold State.takeRecord
  dsimp only
  repeat' split
  all_goals simp

@[simp] theorem State.pair_frame (s : State) (start cadence : Nat) :
    (s.pair start cadence).pins = s.pins ∧ (s.pair start cadence).master = s.master ∧
    (s.pair start cadence).chans = s.chans ∧ (s.pair start cadence).banks = s.banks ∧
    (s.pair start cadence).profiles = s.profiles ∧ (s.pair start cadence).mode = s.mode ∧
    (s.pair start cadence).link = s.link ∧ (s.pair start cadence).probe = s.probe ∧
    (s.pair start cadence).free = s.free ∧ (s.pair start cadence).pending = s.pending := by
  unfold State.pair
  dsimp only
  repeat' split
  all_goals simp

@[simp] theorem State.cadencePoint_frame (s : State) (time : Nat) :
    (s.cadencePoint time).pins = s.pins ∧ (s.cadencePoint time).master = s.master ∧
    (s.cadencePoint time).chans = s.chans ∧ (s.cadencePoint time).banks = s.banks ∧
    (s.cadencePoint time).profiles = s.profiles ∧ (s.cadencePoint time).mode = s.mode ∧
    (s.cadencePoint time).link = s.link ∧ (s.cadencePoint time).probe = s.probe ∧
    (s.cadencePoint time).free = s.free ∧ (s.cadencePoint time).pending = s.pending := by
  unfold State.cadencePoint
  split <;> simp

@[simp] theorem State.positionZero_frame (s : State) (time : Nat) :
    (s.positionZero time).pins = s.pins ∧ (s.positionZero time).master = s.master ∧
    (s.positionZero time).chans = s.chans ∧ (s.positionZero time).banks = s.banks ∧
    (s.positionZero time).profiles = s.profiles ∧ (s.positionZero time).mode = s.mode ∧
    (s.positionZero time).link = s.link ∧ (s.positionZero time).probe = s.probe ∧
    (s.positionZero time).free = s.free ∧ (s.positionZero time).pending = s.pending := by
  unfold State.positionZero
  split <;> simp

@[simp] theorem State.countCadence_frame (s : State) (time : Nat) :
    (s.countCadence time).pins = s.pins ∧ (s.countCadence time).master = s.master ∧
    (s.countCadence time).chans = s.chans ∧ (s.countCadence time).banks = s.banks ∧
    (s.countCadence time).profiles = s.profiles ∧ (s.countCadence time).mode = s.mode ∧
    (s.countCadence time).link = s.link ∧ (s.countCadence time).probe = s.probe ∧
    (s.countCadence time).free = s.free ∧ (s.countCadence time).pending = s.pending := by
  unfold State.countCadence
  split <;> simp

@[simp] theorem State.acquisitionStart_frame (s : State) :
    s.acquisitionStart.pins = s.pins ∧ s.acquisitionStart.master = s.master ∧
    s.acquisitionStart.chans = s.chans ∧ s.acquisitionStart.banks = s.banks ∧
    s.acquisitionStart.profiles = s.profiles ∧ s.acquisitionStart.mode = s.mode ∧
    s.acquisitionStart.link = s.link ∧ s.acquisitionStart.probe = s.probe ∧
    s.acquisitionStart.free = s.free ∧ s.acquisitionStart.pending = s.pending := by
  unfold State.acquisitionStart
  split <;> simp

@[simp] theorem State.tearFrame_frame (s : State) :
    s.tearFrame.pins = s.pins ∧ s.tearFrame.master = s.master ∧ s.tearFrame.chans = s.chans ∧
    s.tearFrame.banks = s.banks ∧ s.tearFrame.profiles = s.profiles ∧ s.tearFrame.mode = s.mode ∧
    s.tearFrame.link = s.link ∧ s.tearFrame.probe = s.probe ∧ s.tearFrame.free = s.free ∧
    s.tearFrame.pending = s.pending := by
  simp [State.tearFrame]

@[simp] theorem State.loseInput_frame (s : State) :
    s.loseInput.pins = s.pins ∧ s.loseInput.master = s.master ∧ s.loseInput.chans = s.chans ∧
    s.loseInput.banks = s.banks ∧ s.loseInput.profiles = s.profiles ∧ s.loseInput.mode = s.mode ∧
    s.loseInput.link = s.link ∧ s.loseInput.probe = s.probe ∧ s.loseInput.free = s.free ∧
    s.loseInput.pending = s.pending := by
  unfold State.loseInput
  split <;> simp

@[simp] theorem State.standbyInput_frame (s : State) :
    s.standbyInput.pins = s.pins ∧ s.standbyInput.master = s.master ∧
    s.standbyInput.chans = s.chans ∧ s.standbyInput.banks = s.banks ∧
    s.standbyInput.profiles = s.profiles ∧ s.standbyInput.mode = s.mode ∧
    s.standbyInput.link = s.link ∧ s.standbyInput.probe = s.probe ∧ s.standbyInput.free = s.free ∧
    s.standbyInput.pending = s.pending := by
  simp [State.standbyInput]

@[simp] theorem State.acquireTimeout_frame (s : State) :
    s.acquireTimeout.pins = s.pins ∧ s.acquireTimeout.master = s.master ∧
    s.acquireTimeout.chans = s.chans ∧ s.acquireTimeout.banks = s.banks ∧
    s.acquireTimeout.profiles = s.profiles ∧ s.acquireTimeout.mode = s.mode ∧
    s.acquireTimeout.link = s.link ∧ s.acquireTimeout.probe = s.probe ∧
    s.acquireTimeout.free = s.free ∧ s.acquireTimeout.pending = s.pending := by
  simp [State.acquireTimeout]

/-! ### The frame store -/

@[simp] theorem State.beginWrite_frame (s : State) :
    s.beginWrite.pins = s.pins ∧ s.beginWrite.timer = s.timer ∧ s.beginWrite.master = s.master ∧
    s.beginWrite.chans = s.chans ∧ s.beginWrite.banks = s.banks ∧
    s.beginWrite.profiles = s.profiles ∧ s.beginWrite.mode = s.mode ∧ s.beginWrite.link = s.link ∧
    s.beginWrite.ind = s.ind ∧ s.beginWrite.probe = s.probe ∧ s.beginWrite.free = s.free ∧
    s.beginWrite.pending = s.pending := by
  unfold State.beginWrite
  split
  · simp
  · split <;> simp

@[simp] theorem State.completeWrite_frame (s : State) (w : FrameWrite) (f : InputFrame) :
    (s.completeWrite w f).pins = s.pins ∧ (s.completeWrite w f).timer = s.timer ∧
    (s.completeWrite w f).master = s.master ∧ (s.completeWrite w f).chans = s.chans ∧
    (s.completeWrite w f).banks = s.banks ∧ (s.completeWrite w f).profiles = s.profiles ∧
    (s.completeWrite w f).mode = s.mode ∧ (s.completeWrite w f).link = s.link ∧
    (s.completeWrite w f).ind = s.ind ∧ (s.completeWrite w f).probe = s.probe ∧
    (s.completeWrite w f).free = s.free ∧ (s.completeWrite w f).pending = s.pending := by
  simp [State.completeWrite]

@[simp] theorem State.changeShowing_frame (s : State) (b : Option BufNo) :
    (s.changeShowing b).pins = s.pins ∧ (s.changeShowing b).acq = s.acq ∧
    (s.changeShowing b).timer = s.timer ∧ (s.changeShowing b).master = s.master ∧
    (s.changeShowing b).chans = s.chans ∧ (s.changeShowing b).banks = s.banks ∧
    (s.changeShowing b).profiles = s.profiles ∧ (s.changeShowing b).mode = s.mode ∧
    (s.changeShowing b).link = s.link ∧ (s.changeShowing b).ind = s.ind ∧
    (s.changeShowing b).probe = s.probe ∧ (s.changeShowing b).free = s.free ∧
    (s.changeShowing b).pending = s.pending := by
  unfold State.changeShowing
  split <;> simp

@[simp] theorem State.countSlip_frame (s : State) :
    s.countSlip.pins = s.pins ∧ s.countSlip.acq = s.acq ∧ s.countSlip.timer = s.timer ∧
    s.countSlip.master = s.master ∧ s.countSlip.chans = s.chans ∧ s.countSlip.banks = s.banks ∧
    s.countSlip.profiles = s.profiles ∧ s.countSlip.mode = s.mode ∧ s.countSlip.link = s.link ∧
    s.countSlip.probe = s.probe ∧ s.countSlip.free = s.free ∧ s.countSlip.pending = s.pending := by
  unfold State.countSlip
  dsimp only
  split <;> simp

@[simp] theorem State.showExpected_frame (s : State) (e : BitVec 40) :
    (s.showExpected e).pins = s.pins ∧ (s.showExpected e).acq = s.acq ∧
    (s.showExpected e).timer = s.timer ∧ (s.showExpected e).master = s.master ∧
    (s.showExpected e).chans = s.chans ∧ (s.showExpected e).banks = s.banks ∧
    (s.showExpected e).profiles = s.profiles ∧ (s.showExpected e).mode = s.mode ∧
    (s.showExpected e).link = s.link ∧ (s.showExpected e).probe = s.probe ∧
    (s.showExpected e).free = s.free ∧ (s.showExpected e).pending = s.pending := by
  unfold State.showExpected
  dsimp only
  repeat' split
  all_goals simp

@[simp] theorem State.selectFrame_frame (s : State) :
    s.selectFrame.pins = s.pins ∧ s.selectFrame.acq = s.acq ∧ s.selectFrame.timer = s.timer ∧
    s.selectFrame.master = s.master ∧ s.selectFrame.chans = s.chans ∧
    s.selectFrame.banks = s.banks ∧ s.selectFrame.profiles = s.profiles ∧
    s.selectFrame.mode = s.mode ∧ s.selectFrame.link = s.link ∧ s.selectFrame.probe = s.probe ∧
    s.selectFrame.free = s.free ∧ s.selectFrame.pending = s.pending := by
  unfold State.selectFrame
  split <;> simp

/-! ### Channels, mode and banks -/

@[simp] theorem State.changeChan_frame (s : State) (k : Output) (c : Channel) (cause : Cause) :
    (s.changeChan k c cause).pins = s.pins ∧ (s.changeChan k c cause).acq = s.acq ∧
    (s.changeChan k c cause).frames = s.frames ∧ (s.changeChan k c cause).timer = s.timer ∧
    (s.changeChan k c cause).master = s.master ∧ (s.changeChan k c cause).banks = s.banks ∧
    (s.changeChan k c cause).profiles = s.profiles ∧ (s.changeChan k c cause).mode = s.mode ∧
    (s.changeChan k c cause).link = s.link ∧ (s.changeChan k c cause).probe = s.probe ∧
    (s.changeChan k c cause).free = s.free ∧ (s.changeChan k c cause).pending = s.pending := by
  unfold State.changeChan
  split <;> simp

@[simp] theorem State.chanSample_frame (s : State) (k : Output) (good : Bool) :
    (s.chanSample k good).pins = s.pins ∧ (s.chanSample k good).acq = s.acq ∧
    (s.chanSample k good).frames = s.frames ∧ (s.chanSample k good).timer = s.timer ∧
    (s.chanSample k good).master = s.master ∧ (s.chanSample k good).banks = s.banks ∧
    (s.chanSample k good).profiles = s.profiles ∧ (s.chanSample k good).mode = s.mode ∧
    (s.chanSample k good).link = s.link ∧ (s.chanSample k good).probe = s.probe ∧
    (s.chanSample k good).free = s.free ∧ (s.chanSample k good).pending = s.pending := by
  unfold State.chanSample
  dsimp only
  split <;> simp

@[simp] theorem State.chanPresence_frame (s : State) (k : Output) :
    (s.chanPresence k).pins = s.pins ∧ (s.chanPresence k).acq = s.acq ∧
    (s.chanPresence k).frames = s.frames ∧ (s.chanPresence k).timer = s.timer ∧
    (s.chanPresence k).master = s.master ∧ (s.chanPresence k).banks = s.banks ∧
    (s.chanPresence k).profiles = s.profiles ∧ (s.chanPresence k).mode = s.mode ∧
    (s.chanPresence k).link = s.link ∧ (s.chanPresence k).probe = s.probe ∧
    (s.chanPresence k).free = s.free ∧ (s.chanPresence k).pending = s.pending := by
  unfold State.chanPresence
  dsimp only
  split <;> simp

@[simp] theorem State.channelStart_frame (s : State) (k : Output) :
    (s.channelStart k).pins = s.pins ∧ (s.channelStart k).acq = s.acq ∧
    (s.channelStart k).frames = s.frames ∧ (s.channelStart k).timer = s.timer ∧
    (s.channelStart k).master = s.master ∧ (s.channelStart k).banks = s.banks ∧
    (s.channelStart k).profiles = s.profiles ∧ (s.channelStart k).mode = s.mode ∧
    (s.channelStart k).link = s.link ∧ (s.channelStart k).probe = s.probe ∧
    (s.channelStart k).free = s.free ∧ (s.channelStart k).pending = s.pending := by
  unfold State.channelStart
  split <;> simp

@[simp] theorem State.chanStandby_frame (s : State) (k : Output) :
    (s.chanStandby k).pins = s.pins ∧ (s.chanStandby k).acq = s.acq ∧
    (s.chanStandby k).frames = s.frames ∧ (s.chanStandby k).timer = s.timer ∧
    (s.chanStandby k).master = s.master ∧ (s.chanStandby k).banks = s.banks ∧
    (s.chanStandby k).profiles = s.profiles ∧ (s.chanStandby k).mode = s.mode ∧
    (s.chanStandby k).link = s.link ∧ (s.chanStandby k).probe = s.probe ∧
    (s.chanStandby k).free = s.free ∧ (s.chanStandby k).pending = s.pending := by
  unfold State.chanStandby
  dsimp only
  split <;> simp

@[simp] theorem State.enableChan_frame (s : State) (k : Output) :
    (s.enableChan k).pins = s.pins ∧ (s.enableChan k).acq = s.acq ∧
    (s.enableChan k).frames = s.frames ∧ (s.enableChan k).timer = s.timer ∧
    (s.enableChan k).master = s.master ∧ (s.enableChan k).banks = s.banks ∧
    (s.enableChan k).profiles = s.profiles ∧ (s.enableChan k).mode = s.mode ∧
    (s.enableChan k).link = s.link ∧ (s.enableChan k).probe = s.probe ∧
    (s.enableChan k).free = s.free ∧ (s.enableChan k).pending = s.pending := by
  unfold State.enableChan
  split <;> simp

@[simp] theorem State.disableChan_frame (s : State) (k : Output) :
    (s.disableChan k).pins = s.pins ∧ (s.disableChan k).acq = s.acq ∧
    (s.disableChan k).frames = s.frames ∧ (s.disableChan k).timer = s.timer ∧
    (s.disableChan k).master = s.master ∧ (s.disableChan k).banks = s.banks ∧
    (s.disableChan k).profiles = s.profiles ∧ (s.disableChan k).mode = s.mode ∧
    (s.disableChan k).link = s.link ∧ (s.disableChan k).probe = s.probe ∧
    (s.disableChan k).free = s.free ∧ (s.disableChan k).pending = s.pending := by
  unfold State.disableChan
  split <;> simp

@[simp] theorem State.restoreChan_frame (s : State) (k : Output) (st : StoredOutput) :
    (s.restoreChan k st).pins = s.pins ∧ (s.restoreChan k st).acq = s.acq ∧
    (s.restoreChan k st).frames = s.frames ∧ (s.restoreChan k st).timer = s.timer ∧
    (s.restoreChan k st).master = s.master ∧ (s.restoreChan k st).banks = s.banks ∧
    (s.restoreChan k st).profiles = s.profiles ∧ (s.restoreChan k st).mode = s.mode ∧
    (s.restoreChan k st).link = s.link ∧ (s.restoreChan k st).probe = s.probe ∧
    (s.restoreChan k st).free = s.free ∧ (s.restoreChan k st).pending = s.pending := by
  unfold State.restoreChan
  dsimp only
  split <;> simp

@[simp] theorem State.enterStandby_frame (s : State) :
    s.enterStandby.pins = s.pins ∧ s.enterStandby.master = s.master ∧
    s.enterStandby.banks = s.banks ∧ s.enterStandby.profiles = s.profiles ∧
    s.enterStandby.link = s.link ∧ s.enterStandby.probe = s.probe ∧ s.enterStandby.free = s.free ∧
    s.enterStandby.pending = s.pending := by
  simp [State.enterStandby]

@[simp] theorem State.masterStart_frame (s : State) :
    s.masterStart.pins = s.pins ∧ s.masterStart.banks = s.banks ∧
    s.masterStart.profiles = s.profiles ∧ s.masterStart.link = s.link ∧
    s.masterStart.probe = s.probe ∧ s.masterStart.free = s.free ∧
    s.masterStart.pending = s.pending := by
  unfold State.masterStart
  dsimp only
  split <;> simp

@[simp] theorem State.changeMode_frame (s : State) (m : PartMode) :
    (s.changeMode m).pins = s.pins ∧ (s.changeMode m).acq = s.acq ∧
    (s.changeMode m).frames = s.frames ∧ (s.changeMode m).timer = s.timer ∧
    (s.changeMode m).master = s.master ∧ (s.changeMode m).chans = s.chans ∧
    (s.changeMode m).banks = s.banks ∧ (s.changeMode m).profiles = s.profiles ∧
    (s.changeMode m).link = s.link ∧ (s.changeMode m).probe = s.probe ∧
    (s.changeMode m).free = s.free ∧ (s.changeMode m).pending = s.pending := by
  simp [State.changeMode]

@[simp] theorem State.canvasChanged_frame (s : State) :
    s.canvasChanged.pins = s.pins ∧ s.canvasChanged.master = s.master ∧
    s.canvasChanged.chans = s.chans ∧ s.canvasChanged.banks = s.banks ∧
    s.canvasChanged.profiles = s.profiles ∧ s.canvasChanged.mode = s.mode ∧
    s.canvasChanged.link = s.link ∧ s.canvasChanged.probe = s.probe ∧
    s.canvasChanged.free = s.free ∧ s.canvasChanged.pending = s.pending := by
  simp [State.canvasChanged]

@[simp] theorem State.swap_frame (s : State) :
    s.swap.pins = s.pins ∧ s.swap.master = s.master ∧ s.swap.chans = s.chans ∧
    s.swap.profiles = s.profiles ∧ s.swap.link = s.link ∧ s.swap.probe = s.probe ∧
    s.swap.free = s.free ∧ s.swap.pending = s.pending := by
  unfold State.swap
  dsimp only
  split <;> split <;> simp

@[simp] theorem State.bankStart_frame (s : State) :
    s.bankStart.pins = s.pins ∧ s.bankStart.master = s.master ∧ s.bankStart.chans = s.chans ∧
    s.bankStart.profiles = s.profiles ∧ s.bankStart.link = s.link ∧ s.bankStart.probe = s.probe ∧
    s.bankStart.free = s.free ∧ s.bankStart.pending = s.pending := by
  unfold State.bankStart
  split <;> simp

@[simp] theorem State.finishCopyBack_frame (s : State) :
    s.finishCopyBack.pins = s.pins ∧ s.finishCopyBack.acq = s.acq ∧
    s.finishCopyBack.frames = s.frames ∧ s.finishCopyBack.timer = s.timer ∧
    s.finishCopyBack.master = s.master ∧ s.finishCopyBack.chans = s.chans ∧
    s.finishCopyBack.profiles = s.profiles ∧ s.finishCopyBack.mode = s.mode ∧
    s.finishCopyBack.link = s.link ∧ s.finishCopyBack.probe = s.probe ∧
    s.finishCopyBack.free = s.free ∧ s.finishCopyBack.pending = s.pending := by
  simp [State.finishCopyBack]

@[simp] theorem State.probePost_frame (s : State) :
    s.probePost.pins = s.pins ∧ s.probePost.acq = s.acq ∧ s.probePost.frames = s.frames ∧
    s.probePost.timer = s.timer ∧ s.probePost.master = s.master ∧ s.probePost.chans = s.chans ∧
    s.probePost.banks = s.banks ∧ s.probePost.profiles = s.profiles ∧ s.probePost.mode = s.mode ∧
    s.probePost.link = s.link ∧ s.probePost.probe = s.probe ∧ s.probePost.free = s.free ∧
    s.probePost.pending = s.pending := by
  unfold State.probePost
  split <;> simp

@[simp] theorem State.probeServe_frame (s : State) :
    s.probeServe.pins = s.pins ∧ s.probeServe.acq = s.acq ∧ s.probeServe.frames = s.frames ∧
    s.probeServe.timer = s.timer ∧ s.probeServe.master = s.master ∧ s.probeServe.chans = s.chans ∧
    s.probeServe.banks = s.banks ∧ s.probeServe.profiles = s.profiles ∧ s.probeServe.mode = s.mode ∧
    s.probeServe.link = s.link ∧ s.probeServe.ind = s.ind ∧ s.probeServe.free = s.free ∧
    s.probeServe.pending = s.pending := by
  unfold State.probeServe
  split <;> simp

/-! ### Presentation frame starts and input frame starts -/

@[simp] theorem State.take_frame (s : State) (align : Bool) (t : Taker) :
    (s.take align t).pins = s.pins ∧ (s.take align t).profiles = s.profiles ∧
    (s.take align t).link = s.link ∧ (s.take align t).probe = s.probe ∧
    (s.take align t).free = s.free ∧ (s.take align t).pending = s.pending := by
  unfold State.take
  repeat' split
  all_goals simp

@[simp] theorem State.takeAll_frame (align : Bool) (order : List Taker) (s : State) :
    (order.foldl (fun s t => (s.take align t).retarget) s).pins = s.pins ∧
    (order.foldl (fun s t => (s.take align t).retarget) s).profiles = s.profiles ∧
    (order.foldl (fun s t => (s.take align t).retarget) s).link = s.link ∧
    (order.foldl (fun s t => (s.take align t).retarget) s).probe = s.probe ∧
    (order.foldl (fun s t => (s.take align t).retarget) s).free = s.free ∧
    (order.foldl (fun s t => (s.take align t).retarget) s).pending = s.pending := by
  induction order generalizing s with
  | nil => simp
  | cons t ts ih => simp [List.foldl, ih]

@[simp] theorem State.deliver_frame (s : State) (align : Bool) (env : Env) :
    (s.deliver align env).profiles = s.profiles ∧ (s.deliver align env).link = s.link ∧
    (s.deliver align env).free = s.free ∧ (s.deliver align env).pending = s.pending := by
  simp [State.deliver]

@[simp] theorem State.handBase_frame (s : State) :
    s.handBase.pins = s.pins ∧ s.handBase.acq = s.acq ∧ s.handBase.timer = s.timer ∧
    s.handBase.master = s.master ∧ s.handBase.chans = s.chans ∧ s.handBase.banks = s.banks ∧
    s.handBase.profiles = s.profiles ∧ s.handBase.mode = s.mode ∧ s.handBase.link = s.link ∧
    s.handBase.ind = s.ind ∧ s.handBase.probe = s.probe ∧ s.handBase.free = s.free ∧
    s.handBase.pending = s.pending := by
  unfold State.handBase
  split <;> simp

@[simp] theorem State.timerStart_frame (s : State) (env : Env) :
    (s.timerStart env).profiles = s.profiles ∧ (s.timerStart env).link = s.link ∧
    (s.timerStart env).free = s.free ∧ (s.timerStart env).pending = s.pending := by
  simp [State.timerStart]

@[simp] theorem State.align_frame (s : State) (time : Nat) (env : Env) :
    (s.align time env).profiles = s.profiles ∧ (s.align time env).link = s.link ∧
    (s.align time env).free = s.free ∧ (s.align time env).pending = s.pending := by
  simp [State.align]

@[simp] theorem State.wakeStart_frame (s : State) (env : Env) :
    (s.wakeStart env).profiles = s.profiles ∧ (s.wakeStart env).link = s.link ∧
    (s.wakeStart env).free = s.free ∧ (s.wakeStart env).pending = s.pending := by
  simp [State.wakeStart]

@[simp] theorem State.wakeUp_frame (s : State) (env : Env) :
    (s.wakeUp env).profiles = s.profiles ∧ (s.wakeUp env).link = s.link ∧
    (s.wakeUp env).free = s.free ∧ (s.wakeUp env).pending = s.pending := by
  unfold State.wakeUp
  split <;> simp

@[simp] theorem State.lockedStart_frame (s : State) (time : Nat) (env : Env) :
    (s.lockedStart time env).profiles = s.profiles ∧ (s.lockedStart time env).link = s.link ∧
    (s.lockedStart time env).free = s.free ∧ (s.lockedStart time env).pending = s.pending := by
  unfold State.lockedStart
  dsimp only
  split <;> simp

@[simp] theorem State.guardBefore_frame (s : State) (time : Nat) :
    (s.guardBefore time).pins = s.pins ∧ (s.guardBefore time).master = s.master ∧
    (s.guardBefore time).chans = s.chans ∧ (s.guardBefore time).banks = s.banks ∧
    (s.guardBefore time).profiles = s.profiles ∧ (s.guardBefore time).mode = s.mode ∧
    (s.guardBefore time).link = s.link ∧ (s.guardBefore time).probe = s.probe ∧
    (s.guardBefore time).free = s.free ∧ (s.guardBefore time).pending = s.pending := by
  unfold State.guardBefore
  split
  · simp
  · split <;> simp

@[simp] theorem State.inputStart_frame (s : State) (time : Nat) (env : Env) :
    (s.inputStart time env).profiles = s.profiles ∧ (s.inputStart time env).link = s.link ∧
    (s.inputStart time env).free = s.free ∧ (s.inputStart time env).pending = s.pending := by
  unfold State.inputStart
  dsimp only
  repeat' split
  all_goals simp

@[simp] theorem State.inputEnd_frame (s : State) (frame : InputFrame) :
    (s.inputEnd frame).pins = s.pins ∧ (s.inputEnd frame).master = s.master ∧
    (s.inputEnd frame).chans = s.chans ∧ (s.inputEnd frame).banks = s.banks ∧
    (s.inputEnd frame).profiles = s.profiles ∧ (s.inputEnd frame).mode = s.mode ∧
    (s.inputEnd frame).link = s.link ∧ (s.inputEnd frame).probe = s.probe ∧
    (s.inputEnd frame).free = s.free ∧ (s.inputEnd frame).pending = s.pending := by
  unfold State.inputEnd
  dsimp only
  repeat' split
  all_goals simp

/-! ### The profile store -/

@[simp] theorem State.profileDone_frame (s : State) (n : Option ProfileNo) (op : ProfileOp) (r : ProfileResult) :
    (s.profileDone n op r).pins = s.pins ∧ (s.profileDone n op r).acq = s.acq ∧
    (s.profileDone n op r).frames = s.frames ∧ (s.profileDone n op r).timer = s.timer ∧
    (s.profileDone n op r).master = s.master ∧ (s.profileDone n op r).chans = s.chans ∧
    (s.profileDone n op r).banks = s.banks ∧ (s.profileDone n op r).profiles = s.profiles ∧
    (s.profileDone n op r).mode = s.mode ∧ (s.profileDone n op r).link = s.link ∧
    (s.profileDone n op r).probe = s.probe ∧ (s.profileDone n op r).free = s.free ∧
    (s.profileDone n op r).pending = s.pending := by
  simp [State.profileDone]

@[simp] theorem State.scanDirectory_frame (s : State) (pass0 pass1 : Bool) :
    (s.scanDirectory pass0 pass1).pins = s.pins ∧ (s.scanDirectory pass0 pass1).acq = s.acq ∧
    (s.scanDirectory pass0 pass1).frames = s.frames ∧
    (s.scanDirectory pass0 pass1).timer = s.timer ∧
    (s.scanDirectory pass0 pass1).master = s.master ∧
    (s.scanDirectory pass0 pass1).chans = s.chans ∧ (s.scanDirectory pass0 pass1).banks = s.banks ∧
    (s.scanDirectory pass0 pass1).mode = s.mode ∧ (s.scanDirectory pass0 pass1).link = s.link ∧
    (s.scanDirectory pass0 pass1).probe = s.probe ∧ (s.scanDirectory pass0 pass1).free = s.free ∧
    (s.scanDirectory pass0 pass1).pending = s.pending := by
  unfold State.scanDirectory
  dsimp only
  split <;> simp

@[simp] theorem State.scanNext_frame (s : State) (r : AreaReading) :
    (s.scanNext r).pins = s.pins ∧ (s.scanNext r).acq = s.acq ∧ (s.scanNext r).frames = s.frames ∧
    (s.scanNext r).timer = s.timer ∧ (s.scanNext r).master = s.master ∧
    (s.scanNext r).chans = s.chans ∧ (s.scanNext r).banks = s.banks ∧ (s.scanNext r).mode = s.mode ∧
    (s.scanNext r).link = s.link ∧ (s.scanNext r).probe = s.probe ∧
    (s.scanNext r).pending = s.pending := by
  unfold State.scanNext
  dsimp only
  repeat' split
  all_goals simp

@[simp] theorem State.scanStep_frame (s : State) (r : ScanReading) :
    (s.scanStep r).pins = s.pins ∧ (s.scanStep r).acq = s.acq ∧ (s.scanStep r).frames = s.frames ∧
    (s.scanStep r).timer = s.timer ∧ (s.scanStep r).master = s.master ∧
    (s.scanStep r).chans = s.chans ∧ (s.scanStep r).banks = s.banks ∧ (s.scanStep r).mode = s.mode ∧
    (s.scanStep r).link = s.link ∧ (s.scanStep r).probe = s.probe ∧
    (s.scanStep r).pending = s.pending := by
  unfold State.scanStep
  split
  · split <;> simp
  · simp

@[simp] theorem State.scanAreas_frame (n : Nat) (s : State) :
    (State.scanAreas n s).pins = s.pins ∧
    (State.scanAreas n s).acq = s.acq ∧
    (State.scanAreas n s).frames = s.frames ∧
    (State.scanAreas n s).timer = s.timer ∧
    (State.scanAreas n s).master = s.master ∧
    (State.scanAreas n s).chans = s.chans ∧
    (State.scanAreas n s).banks = s.banks ∧
    (State.scanAreas n s).mode = s.mode ∧
    (State.scanAreas n s).link = s.link ∧
    (State.scanAreas n s).probe = s.probe ∧
    (State.scanAreas n s).pending = s.pending := by
  induction n generalizing s with
  | zero => simp [State.scanAreas]
  | succ n ih => simp [State.scanAreas, ih]

@[simp] theorem State.scanRest_frame (s : State) :
    s.scanRest.pins = s.pins ∧ s.scanRest.acq = s.acq ∧ s.scanRest.frames = s.frames ∧
    s.scanRest.timer = s.timer ∧ s.scanRest.master = s.master ∧ s.scanRest.chans = s.chans ∧
    s.scanRest.banks = s.banks ∧ s.scanRest.mode = s.mode ∧ s.scanRest.link = s.link ∧
    s.scanRest.probe = s.probe ∧ s.scanRest.pending = s.pending := by
  simp [State.scanRest]

@[simp] theorem State.bootLoad_frame (s : State) (p : Profile) :
    (s.bootLoad p).pins = s.pins ∧ (s.bootLoad p).master = s.master ∧
    (s.bootLoad p).profiles = s.profiles ∧ (s.bootLoad p).mode = s.mode ∧
    (s.bootLoad p).link = s.link ∧ (s.bootLoad p).probe = s.probe ∧ (s.bootLoad p).free = s.free ∧
    (s.bootLoad p).pending = s.pending := by
  unfold State.bootLoad
  dsimp only
  split <;> simp

@[simp] theorem State.boot_frame (s : State) :
    s.boot.pins = s.pins ∧ s.boot.master = s.master ∧ s.boot.link = s.link ∧
    s.boot.probe = s.probe ∧ s.boot.free = s.free ∧ s.boot.pending = s.pending := by
  unfold State.boot
  split
  · simp
  · split <;> simp

@[simp] theorem State.finishScan_frame (s : State) :
    s.finishScan.pins = s.pins ∧ s.finishScan.link = s.link ∧ s.finishScan.probe = s.probe ∧
    s.finishScan.pending = s.pending := by
  simp [State.finishScan]

@[simp] theorem State.finishLoad_frame (s : State) (n : ProfileNo) (arm good : Bool) :
    (s.finishLoad n arm good).pins = s.pins ∧ (s.finishLoad n arm good).acq = s.acq ∧
    (s.finishLoad n arm good).frames = s.frames ∧ (s.finishLoad n arm good).timer = s.timer ∧
    (s.finishLoad n arm good).master = s.master ∧ (s.finishLoad n arm good).chans = s.chans ∧
    (s.finishLoad n arm good).mode = s.mode ∧ (s.finishLoad n arm good).link = s.link ∧
    (s.finishLoad n arm good).probe = s.probe ∧ (s.finishLoad n arm good).pending = s.pending := by
  unfold State.finishLoad
  dsimp only
  split <;> simp

@[simp] theorem State.finishStore_frame (s : State) (n : ProfileNo) (image : Profile) (verified written : Bool) :
    (s.finishStore n image verified written).pins = s.pins ∧
    (s.finishStore n image verified written).acq = s.acq ∧
    (s.finishStore n image verified written).frames = s.frames ∧
    (s.finishStore n image verified written).timer = s.timer ∧
    (s.finishStore n image verified written).master = s.master ∧
    (s.finishStore n image verified written).chans = s.chans ∧
    (s.finishStore n image verified written).banks = s.banks ∧
    (s.finishStore n image verified written).mode = s.mode ∧
    (s.finishStore n image verified written).link = s.link ∧
    (s.finishStore n image verified written).probe = s.probe ∧
    (s.finishStore n image verified written).free = s.free ∧
    (s.finishStore n image verified written).pending = s.pending := by
  unfold State.finishStore
  split <;> simp

@[simp] theorem State.finishErase_frame (s : State) (n : ProfileNo) (erased : Area) (blank written : Bool) :
    (s.finishErase n erased blank written).pins = s.pins ∧
    (s.finishErase n erased blank written).acq = s.acq ∧
    (s.finishErase n erased blank written).frames = s.frames ∧
    (s.finishErase n erased blank written).timer = s.timer ∧
    (s.finishErase n erased blank written).master = s.master ∧
    (s.finishErase n erased blank written).chans = s.chans ∧
    (s.finishErase n erased blank written).banks = s.banks ∧
    (s.finishErase n erased blank written).mode = s.mode ∧
    (s.finishErase n erased blank written).link = s.link ∧
    (s.finishErase n erased blank written).probe = s.probe ∧
    (s.finishErase n erased blank written).free = s.free ∧
    (s.finishErase n erased blank written).pending = s.pending := by
  unfold State.finishErase
  split <;> simp

@[simp] theorem State.finishBootWrite_frame (s : State) (boot : Option ProfileNo) (written : Bool) :
    (s.finishBootWrite boot written).pins = s.pins ∧ (s.finishBootWrite boot written).acq = s.acq ∧
    (s.finishBootWrite boot written).frames = s.frames ∧
    (s.finishBootWrite boot written).timer = s.timer ∧
    (s.finishBootWrite boot written).master = s.master ∧
    (s.finishBootWrite boot written).chans = s.chans ∧
    (s.finishBootWrite boot written).banks = s.banks ∧
    (s.finishBootWrite boot written).mode = s.mode ∧
    (s.finishBootWrite boot written).link = s.link ∧
    (s.finishBootWrite boot written).probe = s.probe ∧
    (s.finishBootWrite boot written).free = s.free ∧
    (s.finishBootWrite boot written).pending = s.pending := by
  unfold State.finishBootWrite
  split <;> simp

end Sys2Proof.Machine
end

