-- ==== Sys2Proof/Laws/Ops.lean ====
section
/-! SUPPORT. For each shared operation, once, everything it can do: posting, answering, taking in a
request, the admissions, a change of acquisition state, the order in which a start is taken, and the
reading of a profile area. -/

namespace Sys2Proof.Machine

/-! ### Posting and answering -/

/-- R184: posting changes the Indication Unit only. -/
theorem State.post_eq (b : IndBody) (s : State) :
    s.post b = { s with ind := s.ind.posted b s.timer.counter } := by
  unfold State.post Indications.posted Indications.masks Config.queueRoom
  split
  · rfl
  · split <;> rfl

@[simp] theorem State.post_ind (b : IndBody) (s : State) :
    (s.post b).ind = s.ind.posted b s.timer.counter := by
  rw [State.post_eq]

theorem State.answer_handling (s : State) (f : Frame) (st : Status) (body : List Byte)
    (h : s.link.handling = some f) :
    s.answer st body = { s with link := { s.link with sending := some ⟨f.code, f.tag, st, body⟩ } } := by
  simp [State.answer, h]

theorem State.answer_none (s : State) (st : Status) (body : List Byte) (h : s.link.handling = none) :
    s.answer st body = s := by
  simp [State.answer, h]

@[simp] theorem State.answer_handling_same (s : State) (st : Status) (body : List Byte) :
    (s.answer st body).link.handling = s.link.handling := by
  unfold State.answer
  split <;> simp_all

@[simp] theorem State.answer_holding (s : State) (st : Status) (body : List Byte) :
    (s.answer st body).link.holding = s.link.holding := by
  unfold State.answer
  split <;> simp_all

@[simp] theorem State.answer_rx (s : State) (st : Status) (body : List Byte) :
    (s.answer st body).link.rx = s.link.rx := by
  unfold State.answer
  split <;> simp_all

/-! ### Taking in a request (R172, R173, R132, R155) -/

theorem State.submit_free (s : State) (f : Frame) (act : State → State) (h : s.link.handling = none) :
    s.submit f act = act { s with link := { s.link with rx := .hunt, handling := some f } } := by
  simp [State.submit, h]

theorem State.submit_waits (s : State) (f g : Frame) (act : State → State)
    (h : s.link.handling = some g) (h' : s.link.holding = none) :
    s.submit f act = { s with link := { s.link with rx := .hunt, holding := some f } } := by
  simp [State.submit, h, h']

theorem State.submit_discarded (s : State) (f g w : Frame) (act : State → State)
    (h : s.link.handling = some g) (h' : s.link.holding = some w) :
    s.submit f act = ({ s with link := { s.link with rx := .hunt } } : State).flagLinkDiscard := by
  simp [State.submit, h, h']

/-- A request frame that completes is handled, waits, or is discarded. -/
theorem State.submit_cases (s : State) (f : Frame) (act : State → State) :
    (s.link.handling = none ∧
      s.submit f act = act { s with link := { s.link with rx := .hunt, handling := some f } }) ∨
    (∃ g, s.link.handling = some g ∧ s.link.holding = none ∧
      s.submit f act = { s with link := { s.link with rx := .hunt, holding := some f } }) ∨
    (∃ g w, s.link.handling = some g ∧ s.link.holding = some w ∧
      s.submit f act = ({ s with link := { s.link with rx := .hunt } } : State).flagLinkDiscard) := by
  cases h : s.link.handling with
  | none => exact .inl ⟨rfl, s.submit_free f act h⟩
  | some g =>
    cases h' : s.link.holding with
    | none => exact .inr (.inl ⟨g, rfl, rfl, s.submit_waits f g act h h'⟩)
    | some w => exact .inr (.inr ⟨g, w, rfl, rfl, s.submit_discarded f g w act h h'⟩)

/-- A handled request is refused by the link, refused with STARTING, or passed to its owner's rule. -/
theorem request_cases (fits early : Bool) (act : State → State) (s : State) :
    (fits = false ∧ request fits early act s = s.refuse .badLength) ∨
    (fits = true ∧ s.mode.mode = .startup ∧ early = false ∧
      request fits early act s = s.refuse .starting) ∨
    (fits = true ∧ (s.mode.mode ≠ .startup ∨ early = true) ∧ request fits early act s = act s) := by
  unfold request
  cases fits
  · exact .inl ⟨rfl, rfl⟩
  · by_cases h : s.mode.mode = .startup
    · cases early
      · exact .inr (.inl ⟨rfl, h, rfl, by simp [h]⟩)
      · exact .inr (.inr ⟨rfl, .inr rfl, by simp⟩)
    · exact .inr (.inr ⟨rfl, .inl h, by simp [h]⟩)

theorem admitEdit_cases (act : State → State) (s : State) :
    (s.banks.pendState = .editable ∧ admitEdit act s = act s) ∨
    (s.banks.pendState = .armed ∧ admitEdit act s = s.refuse .armed) ∨
    ((s.banks.pendState = .syncing ∨ s.banks.pendState = .loading) ∧
      admitEdit act s = s.refuse .busy) := by
  unfold admitEdit
  cases s.banks.pendState <;> simp

theorem admitProfile_cases (act : State → State) (s : State) :
    (s.profiles.ctl = .scanning ∧ admitProfile act s = s.refuse .starting) ∨
    (s.profiles.ctl = .idle ∧ admitProfile act s = act s) ∨
    (s.profiles.ctl ≠ .scanning ∧ s.profiles.ctl ≠ .idle ∧ admitProfile act s = s.refuse .busy) := by
  unfold admitProfile
  cases s.profiles.ctl <;> simp

/-! ### The acquisition state -/

@[simp] theorem Acquisition.enter_state (a : Acquisition) (new : AcqState) (w : List FrameRecord) :
    (a.enter new w).state = new := by
  cases new <;> rfl

/-- A change of acquisition state ends in the state it names. -/
@[simp] theorem State.moveTo_state (s : State) (new : AcqState) (w : List FrameRecord) :
    (s.moveTo new w).acq.state = new := by
  unfold State.moveTo
  dsimp only
  repeat' split
  all_goals simp_all

/-! ### The order in which a start is taken (log 2) -/

theorem mem_firsts (t : Taker) (seen ts : List Taker) : t ∈ firsts seen ts ↔ t ∈ ts ∧ t ∉ seen := by
  induction ts generalizing seen with
  | nil => simp [firsts]
  | cons u us ih =>
    unfold firsts
    split
    · rw [ih, List.mem_cons]
      constructor
      · exact fun h => ⟨.inr h.1, h.2⟩
      · rintro ⟨rfl | h, h'⟩
        · exact absurd ‹_› h'
        · exact ⟨h, h'⟩
    · rw [List.mem_cons, ih, List.mem_cons, List.mem_cons]
      constructor
      · rintro (rfl | ⟨h, h'⟩)
        · exact ⟨.inl rfl, ‹_›⟩
        · exact ⟨.inr h, fun hs => h' (.inr hs)⟩
      · rintro ⟨rfl | h, h'⟩
        · exact .inl rfl
        · by_cases hu : t = u
          · exact .inl hu
          · exact .inr ⟨h, fun hs => hs.elim hu h'⟩

theorem firsts_nodup (seen ts : List Taker) : (firsts seen ts).Nodup := by
  induction ts generalizing seen with
  | nil => simp [firsts]
  | cons u us ih =>
    unfold firsts
    split
    · exact ih seen
    · exact List.nodup_cons.2 ⟨fun h => ((mem_firsts u (u :: seen) us).1 h).2 (by simp), ih _⟩

theorem takeOrder_nodup (order : List Taker) : (takeOrder order).Nodup := firsts_nodup [] _

/-- Every taker takes every start. -/
theorem mem_takeOrder (t : Taker) (order : List Taker) : t ∈ takeOrder order := by
  refine (mem_firsts t [] _).2 ⟨List.mem_append.2 (.inr ?_), by simp⟩
  cases t with
  | channel k => revert k; decide
  | _ => decide

/-- A start is taken once by each taker, in some order. -/
theorem takeOrder_perm (order : List Taker) : (takeOrder order).Perm allTakers := by
  refine (List.perm_ext_iff_of_nodup (takeOrder_nodup order) (by decide)).2 fun t => ?_
  have h : t ∈ takeOrder [] := mem_takeOrder t []
  have e : takeOrder [] = allTakers := by decide
  exact ⟨fun _ => e ▸ h, fun _ => mem_takeOrder t order⟩

/-! ### What the scan makes of an area (R154, R162, log 41) -/

/-- An area is found EMPTY exactly when it holds nothing from then on. -/
theorem scanArea_none_iff (a : Area) (r : AreaReading) (free : Nat) :
    scanArea a r free = none ↔ scannedArea a r = .blank := by
  cases a <;> cases r <;> simp [scanArea, scannedArea]

/-- An area found SOUND holds a profile whole from then on, the one it held before, with its header. -/
theorem scanArea_sound (a : Area) (r : AreaReading) (free : Nat) (h : Header)
    (found : scanArea a r free = some (true, h)) :
    r = .passes ∧ ∃ p, a.profile? = some p ∧ scannedArea a r = .held p ∧ h = p.header := by
  cases a <;> cases r <;> simp_all [scanArea, scannedArea, Area.profile?]

/-- A scanned area is blank, or holds what it held before. -/
theorem scannedArea_profile (a : Area) (r : AreaReading) :
    scannedArea a r = .blank ∨ (scannedArea a r).profile? = a.profile? := by
  cases a <;> cases r <;> simp [scannedArea, Area.profile?]

end Sys2Proof.Machine
end

