-- ==== Sys2Proof/Laws/Link.lean ====
section
/-! SUPPORT. The Control Link, once: a frame's code passes it to its owner, and every request command is
the completion of its frame (R172, R173). -/

namespace Sys2Proof.Machine

theorem handleFrame_identify (tag : Byte) (body : List Byte) (env : Env) :
    handleFrame ⟨0x01, tag, body⟩ env = doIdentify body := rfl

theorem handleFrame_reset (tag : Byte) (body : List Byte) (env : Env) :
    handleFrame ⟨0x02, tag, body⟩ env = doReset body := rfl

theorem handleFrame_status (tag : Byte) (body : List Byte) (env : Env) :
    handleFrame ⟨0x03, tag, body⟩ env = doStatus body := rfl

theorem handleFrame_fetch (tag : Byte) (body : List Byte) (env : Env) :
    handleFrame ⟨0x04, tag, body⟩ env = doFetch body := rfl

theorem handleFrame_setMask (tag : Byte) (body : List Byte) (env : Env) :
    handleFrame ⟨0x05, tag, body⟩ env = doSetMask body := rfl

theorem handleFrame_standby (tag : Byte) (body : List Byte) (env : Env) :
    handleFrame ⟨0x08, tag, body⟩ env = doStandby body := rfl

theorem handleFrame_wake (tag : Byte) (body : List Byte) (env : Env) :
    handleFrame ⟨0x09, tag, body⟩ env = doWake body env := rfl

theorem handleFrame_setInputControl (tag : Byte) (body : List Byte) (env : Env) :
    handleFrame ⟨0x10, tag, body⟩ env = doSetInputControl body := rfl

theorem handleFrame_acceptInput (tag : Byte) (body : List Byte) (env : Env) :
    handleFrame ⟨0x11, tag, body⟩ env = doAcceptInput body := rfl

theorem handleFrame_setFreePeriod (tag : Byte) (body : List Byte) (env : Env) :
    handleFrame ⟨0x18, tag, body⟩ env = doSetFreePeriod body := rfl

theorem handleFrame_setMaster (tag : Byte) (body : List Byte) (env : Env) :
    handleFrame ⟨0x19, tag, body⟩ env = doSetMaster body := rfl

theorem handleFrame_readCounters (tag : Byte) (body : List Byte) (env : Env) :
    handleFrame ⟨0x1A, tag, body⟩ env = doReadCounters body := rfl

theorem handleFrame_setSlipThreshold (tag : Byte) (body : List Byte) (env : Env) :
    handleFrame ⟨0x1B, tag, body⟩ env = doSetSlipThreshold body := rfl

theorem handleFrame_outputEnable (tag : Byte) (body : List Byte) (env : Env) :
    handleFrame ⟨0x20, tag, body⟩ env = doOutputEnable body := rfl

theorem handleFrame_outputDisable (tag : Byte) (body : List Byte) (env : Env) :
    handleFrame ⟨0x21, tag, body⟩ env = doOutputDisable body := rfl

theorem handleFrame_outputRejoin (tag : Byte) (body : List Byte) (env : Env) :
    handleFrame ⟨0x22, tag, body⟩ env = doOutputRejoin body := rfl

theorem handleFrame_setOutputControl (tag : Byte) (body : List Byte) (env : Env) :
    handleFrame ⟨0x23, tag, body⟩ env = doSetOutputControl body := rfl

theorem handleFrame_writeScene (tag : Byte) (body : List Byte) (env : Env) :
    handleFrame ⟨0x30, tag, body⟩ env = doWriteScene body := rfl

theorem handleFrame_writeLayout (tag : Byte) (body : List Byte) (env : Env) :
    handleFrame ⟨0x31, tag, body⟩ env = doWriteLayout body := rfl

theorem handleFrame_writeMesh (tag : Byte) (body : List Byte) (env : Env) :
    handleFrame ⟨0x32, tag, body⟩ env = doWriteMesh body := rfl

theorem handleFrame_readMesh (tag : Byte) (body : List Byte) (env : Env) :
    handleFrame ⟨0x33, tag, body⟩ env = doReadMesh body := rfl

theorem handleFrame_writeCoverage (tag : Byte) (body : List Byte) (env : Env) :
    handleFrame ⟨0x34, tag, body⟩ env = doWriteCoverage body := rfl

theorem handleFrame_writeTone (tag : Byte) (body : List Byte) (env : Env) :
    handleFrame ⟨0x35, tag, body⟩ env = doWriteTone body := rfl

theorem handleFrame_writeTable (tag : Byte) (body : List Byte) (env : Env) :
    handleFrame ⟨0x36, tag, body⟩ env = doWriteTable body := rfl

theorem handleFrame_commit (tag : Byte) (body : List Byte) (env : Env) :
    handleFrame ⟨0x38, tag, body⟩ env = doCommit body := rfl

theorem handleFrame_disarm (tag : Byte) (body : List Byte) (env : Env) :
    handleFrame ⟨0x39, tag, body⟩ env = doDisarm body := rfl

theorem handleFrame_revert (tag : Byte) (body : List Byte) (env : Env) :
    handleFrame ⟨0x3A, tag, body⟩ env = doRevert body := rfl

theorem handleFrame_readBankInfo (tag : Byte) (body : List Byte) (env : Env) :
    handleFrame ⟨0x3B, tag, body⟩ env = doReadBankInfo body := rfl

theorem handleFrame_probe (tag : Byte) (body : List Byte) (env : Env) :
    handleFrame ⟨0x40, tag, body⟩ env = doProbe body := rfl

theorem handleFrame_probeRead (tag : Byte) (body : List Byte) (env : Env) :
    handleFrame ⟨0x41, tag, body⟩ env = doProbeRead body := rfl

theorem handleFrame_profileLoad (tag : Byte) (body : List Byte) (env : Env) :
    handleFrame ⟨0x50, tag, body⟩ env = doProfileLoad body := rfl

theorem handleFrame_profileStore (tag : Byte) (body : List Byte) (env : Env) :
    handleFrame ⟨0x51, tag, body⟩ env = doProfileStore body := rfl

theorem handleFrame_profileErase (tag : Byte) (body : List Byte) (env : Env) :
    handleFrame ⟨0x52, tag, body⟩ env = doProfileErase body := rfl

theorem handleFrame_profileSetBoot (tag : Byte) (body : List Byte) (env : Env) :
    handleFrame ⟨0x53, tag, body⟩ env = doProfileSetBoot body := rfl

theorem handleFrame_profileList (tag : Byte) (body : List Byte) (env : Env) :
    handleFrame ⟨0x54, tag, body⟩ env = doProfileList body := rfl

/-- Every request command is the completion of the frame it brings. -/
theorem exec_request (c : Instr) (f : Frame) (h : c.frame? = some f) :
    ∃ env, ∀ s, exec c s = .next (completeFrame f env s) := by
  cases c with
  | resetN _ => cases h
  | wakeN _ => cases h
  | inputValidFall => cases h
  | inputFrameStart _ _ _ => cases h
  | inputFrameEnd _ _ => cases h
  | inputLossGuardExpiry => cases h
  | acquisitionTimerExpiry => cases h
  | holdTimerExpiry => cases h
  | presentationFrameStart _ => cases h
  | copyBackCompletion => cases h
  | loadCompletion _ => cases h
  | storeCompletion _ _ => cases h
  | eraseCompletion _ _ => cases h
  | directoryCompletion _ => cases h
  | scanCompletion => cases h
  | interByteGapExpiry => cases h
  | frameReceiveError _ => cases h
  | requestFrameDiscard frame env =>
    cases h
    exact ⟨env, fun _ => rfl⟩
  | replyTransmitEnd _ => cases h
  | unknownRequest code tag body env =>
    cases h
    exact ⟨env, fun _ => rfl⟩
  | identify tag body =>
    cases h
    exact ⟨⟨Four.all false, 0, []⟩, fun s => congrArg (fun act => Host.Outcome.next (s.submit ⟨0x01, tag, body⟩ act))
      (handleFrame_identify tag body ⟨Four.all false, 0, []⟩).symm⟩
  | reset tag body =>
    cases h
    exact ⟨⟨Four.all false, 0, []⟩, fun s => congrArg (fun act => Host.Outcome.next (s.submit ⟨0x02, tag, body⟩ act))
      (handleFrame_reset tag body ⟨Four.all false, 0, []⟩).symm⟩
  | status tag body =>
    cases h
    exact ⟨⟨Four.all false, 0, []⟩, fun s => congrArg (fun act => Host.Outcome.next (s.submit ⟨0x03, tag, body⟩ act))
      (handleFrame_status tag body ⟨Four.all false, 0, []⟩).symm⟩
  | fetch tag body =>
    cases h
    exact ⟨⟨Four.all false, 0, []⟩, fun s => congrArg (fun act => Host.Outcome.next (s.submit ⟨0x04, tag, body⟩ act))
      (handleFrame_fetch tag body ⟨Four.all false, 0, []⟩).symm⟩
  | setMask tag body =>
    cases h
    exact ⟨⟨Four.all false, 0, []⟩, fun s => congrArg (fun act => Host.Outcome.next (s.submit ⟨0x05, tag, body⟩ act))
      (handleFrame_setMask tag body ⟨Four.all false, 0, []⟩).symm⟩
  | standby tag body =>
    cases h
    exact ⟨⟨Four.all false, 0, []⟩, fun s => congrArg (fun act => Host.Outcome.next (s.submit ⟨0x08, tag, body⟩ act))
      (handleFrame_standby tag body ⟨Four.all false, 0, []⟩).symm⟩
  | wake tag body env =>
    cases h
    exact ⟨env, fun s => congrArg (fun act => Host.Outcome.next (s.submit ⟨0x09, tag, body⟩ act))
      (handleFrame_wake tag body env).symm⟩
  | setInputControl tag body =>
    cases h
    exact ⟨⟨Four.all false, 0, []⟩, fun s => congrArg (fun act => Host.Outcome.next (s.submit ⟨0x10, tag, body⟩ act))
      (handleFrame_setInputControl tag body ⟨Four.all false, 0, []⟩).symm⟩
  | acceptInput tag body =>
    cases h
    exact ⟨⟨Four.all false, 0, []⟩, fun s => congrArg (fun act => Host.Outcome.next (s.submit ⟨0x11, tag, body⟩ act))
      (handleFrame_acceptInput tag body ⟨Four.all false, 0, []⟩).symm⟩
  | setFreePeriod tag body =>
    cases h
    exact ⟨⟨Four.all false, 0, []⟩, fun s => congrArg (fun act => Host.Outcome.next (s.submit ⟨0x18, tag, body⟩ act))
      (handleFrame_setFreePeriod tag body ⟨Four.all false, 0, []⟩).symm⟩
  | setMaster tag body =>
    cases h
    exact ⟨⟨Four.all false, 0, []⟩, fun s => congrArg (fun act => Host.Outcome.next (s.submit ⟨0x19, tag, body⟩ act))
      (handleFrame_setMaster tag body ⟨Four.all false, 0, []⟩).symm⟩
  | readCounters tag body =>
    cases h
    exact ⟨⟨Four.all false, 0, []⟩, fun s => congrArg (fun act => Host.Outcome.next (s.submit ⟨0x1A, tag, body⟩ act))
      (handleFrame_readCounters tag body ⟨Four.all false, 0, []⟩).symm⟩
  | setSlipThreshold tag body =>
    cases h
    exact ⟨⟨Four.all false, 0, []⟩, fun s => congrArg (fun act => Host.Outcome.next (s.submit ⟨0x1B, tag, body⟩ act))
      (handleFrame_setSlipThreshold tag body ⟨Four.all false, 0, []⟩).symm⟩
  | outputEnable tag body =>
    cases h
    exact ⟨⟨Four.all false, 0, []⟩, fun s => congrArg (fun act => Host.Outcome.next (s.submit ⟨0x20, tag, body⟩ act))
      (handleFrame_outputEnable tag body ⟨Four.all false, 0, []⟩).symm⟩
  | outputDisable tag body =>
    cases h
    exact ⟨⟨Four.all false, 0, []⟩, fun s => congrArg (fun act => Host.Outcome.next (s.submit ⟨0x21, tag, body⟩ act))
      (handleFrame_outputDisable tag body ⟨Four.all false, 0, []⟩).symm⟩
  | outputRejoin tag body =>
    cases h
    exact ⟨⟨Four.all false, 0, []⟩, fun s => congrArg (fun act => Host.Outcome.next (s.submit ⟨0x22, tag, body⟩ act))
      (handleFrame_outputRejoin tag body ⟨Four.all false, 0, []⟩).symm⟩
  | setOutputControl tag body =>
    cases h
    exact ⟨⟨Four.all false, 0, []⟩, fun s => congrArg (fun act => Host.Outcome.next (s.submit ⟨0x23, tag, body⟩ act))
      (handleFrame_setOutputControl tag body ⟨Four.all false, 0, []⟩).symm⟩
  | writeScene tag body =>
    cases h
    exact ⟨⟨Four.all false, 0, []⟩, fun s => congrArg (fun act => Host.Outcome.next (s.submit ⟨0x30, tag, body⟩ act))
      (handleFrame_writeScene tag body ⟨Four.all false, 0, []⟩).symm⟩
  | writeLayout tag body =>
    cases h
    exact ⟨⟨Four.all false, 0, []⟩, fun s => congrArg (fun act => Host.Outcome.next (s.submit ⟨0x31, tag, body⟩ act))
      (handleFrame_writeLayout tag body ⟨Four.all false, 0, []⟩).symm⟩
  | writeMesh tag body =>
    cases h
    exact ⟨⟨Four.all false, 0, []⟩, fun s => congrArg (fun act => Host.Outcome.next (s.submit ⟨0x32, tag, body⟩ act))
      (handleFrame_writeMesh tag body ⟨Four.all false, 0, []⟩).symm⟩
  | readMesh tag body =>
    cases h
    exact ⟨⟨Four.all false, 0, []⟩, fun s => congrArg (fun act => Host.Outcome.next (s.submit ⟨0x33, tag, body⟩ act))
      (handleFrame_readMesh tag body ⟨Four.all false, 0, []⟩).symm⟩
  | writeCoverage tag body =>
    cases h
    exact ⟨⟨Four.all false, 0, []⟩, fun s => congrArg (fun act => Host.Outcome.next (s.submit ⟨0x34, tag, body⟩ act))
      (handleFrame_writeCoverage tag body ⟨Four.all false, 0, []⟩).symm⟩
  | writeTone tag body =>
    cases h
    exact ⟨⟨Four.all false, 0, []⟩, fun s => congrArg (fun act => Host.Outcome.next (s.submit ⟨0x35, tag, body⟩ act))
      (handleFrame_writeTone tag body ⟨Four.all false, 0, []⟩).symm⟩
  | writeTable tag body =>
    cases h
    exact ⟨⟨Four.all false, 0, []⟩, fun s => congrArg (fun act => Host.Outcome.next (s.submit ⟨0x36, tag, body⟩ act))
      (handleFrame_writeTable tag body ⟨Four.all false, 0, []⟩).symm⟩
  | commit tag body =>
    cases h
    exact ⟨⟨Four.all false, 0, []⟩, fun s => congrArg (fun act => Host.Outcome.next (s.submit ⟨0x38, tag, body⟩ act))
      (handleFrame_commit tag body ⟨Four.all false, 0, []⟩).symm⟩
  | disarm tag body =>
    cases h
    exact ⟨⟨Four.all false, 0, []⟩, fun s => congrArg (fun act => Host.Outcome.next (s.submit ⟨0x39, tag, body⟩ act))
      (handleFrame_disarm tag body ⟨Four.all false, 0, []⟩).symm⟩
  | revert tag body =>
    cases h
    exact ⟨⟨Four.all false, 0, []⟩, fun s => congrArg (fun act => Host.Outcome.next (s.submit ⟨0x3A, tag, body⟩ act))
      (handleFrame_revert tag body ⟨Four.all false, 0, []⟩).symm⟩
  | readBankInfo tag body =>
    cases h
    exact ⟨⟨Four.all false, 0, []⟩, fun s => congrArg (fun act => Host.Outcome.next (s.submit ⟨0x3B, tag, body⟩ act))
      (handleFrame_readBankInfo tag body ⟨Four.all false, 0, []⟩).symm⟩
  | probe tag body =>
    cases h
    exact ⟨⟨Four.all false, 0, []⟩, fun s => congrArg (fun act => Host.Outcome.next (s.submit ⟨0x40, tag, body⟩ act))
      (handleFrame_probe tag body ⟨Four.all false, 0, []⟩).symm⟩
  | probeRead tag body =>
    cases h
    exact ⟨⟨Four.all false, 0, []⟩, fun s => congrArg (fun act => Host.Outcome.next (s.submit ⟨0x41, tag, body⟩ act))
      (handleFrame_probeRead tag body ⟨Four.all false, 0, []⟩).symm⟩
  | profileLoad tag body =>
    cases h
    exact ⟨⟨Four.all false, 0, []⟩, fun s => congrArg (fun act => Host.Outcome.next (s.submit ⟨0x50, tag, body⟩ act))
      (handleFrame_profileLoad tag body ⟨Four.all false, 0, []⟩).symm⟩
  | profileStore tag body =>
    cases h
    exact ⟨⟨Four.all false, 0, []⟩, fun s => congrArg (fun act => Host.Outcome.next (s.submit ⟨0x51, tag, body⟩ act))
      (handleFrame_profileStore tag body ⟨Four.all false, 0, []⟩).symm⟩
  | profileErase tag body =>
    cases h
    exact ⟨⟨Four.all false, 0, []⟩, fun s => congrArg (fun act => Host.Outcome.next (s.submit ⟨0x52, tag, body⟩ act))
      (handleFrame_profileErase tag body ⟨Four.all false, 0, []⟩).symm⟩
  | profileSetBoot tag body =>
    cases h
    exact ⟨⟨Four.all false, 0, []⟩, fun s => congrArg (fun act => Host.Outcome.next (s.submit ⟨0x53, tag, body⟩ act))
      (handleFrame_profileSetBoot tag body ⟨Four.all false, 0, []⟩).symm⟩
  | profileList tag body =>
    cases h
    exact ⟨⟨Four.all false, 0, []⟩, fun s => congrArg (fun act => Host.Outcome.next (s.submit ⟨0x54, tag, body⟩ act))
      (handleFrame_profileList tag body ⟨Four.all false, 0, []⟩).symm⟩
  | rxdByteReceived _ _ => cases h
  | requestWaitsInHoldingBuffer frame env =>
    cases h
    exact ⟨env, fun _ => rfl⟩
  | profileAreaExamined _ => cases h
  | directoryWriteBegin => cases h

/-- A request refused by the link or its owner while it is handled. -/
theorem State.refuse_replied (s : State) (f : Frame) (st : Status) :
    State.refuse st { s with link := { s.link with rx := .hunt, handling := some f } } =
      s.replied f st [] := rfl

theorem State.answer_replied (s : State) (f : Frame) (st : Status) (body : List Byte) :
    State.answer st body { s with link := { s.link with rx := .hunt, handling := some f } } =
      s.replied f st body := rfl

/-- A request of a fitting length that STARTUP does not take. -/
theorem State.submit_request (s : State) (f : Frame) (fits : Bool) (act : State → State) (h : s.Free)
    (hf : fits = true) :
    s.submit f (request fits false act) = s.unlessStarting f (act (s.handlingOf f)) := by
  rw [State.submit_free s f _ h]
  unfold request State.unlessStarting
  subst hf
  by_cases hm : s.mode.mode = .startup
  · simp [hm, State.refuse_replied]
  · simp [hm, State.handlingOf]

/-- A request of a fitting length that every mode takes. -/
theorem State.submit_early (s : State) (f : Frame) (fits : Bool) (act : State → State) (h : s.Free)
    (hf : fits = true) : s.submit f (request fits true act) = act (s.handlingOf f) := by
  rw [State.submit_free s f _ h]
  simp [request, hf, State.handlingOf]

end Sys2Proof.Machine
end

