-- ==== Sys2Proof/Laws/Memory.lean ====
section
/-! SUPPORT. Frame memory: every operation keeps a picture's canonical form; a position reads what was
last written there, and a write leaves every other position alone. -/

namespace Sys2Proof.Machine

theorem risingFrom_mono {lo lo' : Nat} (h : lo' ≤ lo) (l : List (Nat × Rgb))
    (hl : risingFrom lo l = true) : risingFrom lo' l = true := by
  cases l with
  | nil => rfl
  | cons p rest =>
    simp only [risingFrom, Bool.and_eq_true, decide_eq_true_eq] at hl ⊢
    exact ⟨by omega, hl.2⟩

theorem insertCell_rising (key : Nat) (c : Rgb) (l : List (Nat × Rgb)) (lo : Nat) (hk : lo ≤ key)
    (hl : risingFrom lo l = true) : risingFrom lo (insertCell key c l) = true := by
  induction l generalizing lo with
  | nil => simp [insertCell, risingFrom, hk]
  | cons p rest ih =>
    obtain ⟨k, d⟩ := p
    simp only [risingFrom, Bool.and_eq_true, decide_eq_true_eq] at hl
    unfold insertCell
    split
    · simp [risingFrom, hk, hl.2]
      omega
    · split
      · subst_vars
        simp [risingFrom, hk, hl.2]
      · simp only [risingFrom, Bool.and_eq_true, decide_eq_true_eq]
        exact ⟨hl.1, ih (k + 1) (by omega) hl.2⟩

theorem eraseCell_rising (key : Nat) (l : List (Nat × Rgb)) (lo : Nat)
    (hl : risingFrom lo l = true) : risingFrom lo (eraseCell key l) = true := by
  induction l generalizing lo with
  | nil => rfl
  | cons p rest ih =>
    obtain ⟨k, d⟩ := p
    simp only [risingFrom, Bool.and_eq_true, decide_eq_true_eq] at hl
    unfold eraseCell
    split
    · exact risingFrom_mono (by omega) rest hl.2
    · simp only [risingFrom, Bool.and_eq_true, decide_eq_true_eq]
      exact ⟨hl.1, ih (k + 1) hl.2⟩

theorem mem_insertCell (key : Nat) (c : Rgb) (l : List (Nat × Rgb)) (p : Nat × Rgb)
    (h : p ∈ insertCell key c l) : p = (key, c) ∨ p ∈ l := by
  induction l with
  | nil => simpa [insertCell] using h
  | cons q rest ih =>
    obtain ⟨k, d⟩ := q
    unfold insertCell at h
    split at h
    · simpa using h
    · split at h
      · rcases List.mem_cons.1 h with h | h
        · exact .inl h
        · exact .inr (List.mem_cons_of_mem _ h)
      · rcases List.mem_cons.1 h with h | h
        · exact .inr (by simp [h])
        · exact (ih h).imp id (List.mem_cons_of_mem _)

theorem mem_eraseCell (key : Nat) (l : List (Nat × Rgb)) (p : Nat × Rgb) (h : p ∈ eraseCell key l) :
    p ∈ l := by
  induction l with
  | nil => simp [eraseCell] at h
  | cons q rest ih =>
    obtain ⟨k, d⟩ := q
    unfold eraseCell at h
    split at h
    · exact List.mem_cons_of_mem _ h
    · rcases List.mem_cons.1 h with h | h
      · simp [h]
      · exact List.mem_cons_of_mem _ (ih h)

@[simp] theorem Picture.write_fill (p : Picture) (key : Nat) (c : Rgb) : (p.write key c).fill = p.fill := by
  unfold Picture.write
  split <;> rfl

/-- A write keeps the canonical form. -/
theorem Picture.write_wf (p : Picture) (key : Nat) (c : Rgb) (h : p.wf = true) :
    (p.write key c).wf = true := by
  simp only [Picture.wf, Bool.and_eq_true, List.all_eq_true, decide_eq_true_eq] at h
  unfold Picture.write
  split
  · simp only [Picture.wf, Bool.and_eq_true, List.all_eq_true, decide_eq_true_eq]
    exact ⟨eraseCell_rising key _ 0 h.1, fun q hq => h.2 q (mem_eraseCell key _ q hq)⟩
  · simp only [Picture.wf, Bool.and_eq_true, List.all_eq_true, decide_eq_true_eq]
    refine ⟨insertCell_rising key c _ 0 (by omega) h.1, fun q hq => ?_⟩
    rcases mem_insertCell key c _ q hq with rfl | hq
    · assumption
    · exact h.2 q hq

theorem foldl_write_wf (l : List (Nat × Nat × InputPixel)) (table : List Nat) (p : Picture)
    (h : p.wf = true) :
    (l.foldl (fun pic q => pic.write (pixelKey q.1 q.2.1) (decodePixel table q.2.2)) p).wf = true := by
  induction l generalizing p with
  | nil => exact h
  | cons q rest ih => exact ih _ (p.write_wf _ _ h)

/-- A converted input frame is in the canonical form. -/
theorem convertFrame_wf (f : InputFrame) (table : List Nat) : (convertFrame f table).wf = true :=
  foldl_write_wf _ table _ rfl

theorem blankPicture_wf : blankPicture.wf = true := rfl

/-! ### Reading after writing -/

theorem lookup_above (key lo : Nat) (l : List (Nat × Rgb)) (hl : risingFrom lo l = true) (h : key < lo) :
    lookupCell key l = none := by
  induction l generalizing lo with
  | nil => rfl
  | cons p rest ih =>
    obtain ⟨k, d⟩ := p
    simp only [risingFrom, Bool.and_eq_true, decide_eq_true_eq] at hl
    unfold lookupCell
    rw [if_neg (by omega)]
    exact ih (k + 1) hl.2 (by omega)

theorem lookup_insert (key a : Nat) (c : Rgb) (l : List (Nat × Rgb)) :
    lookupCell a (insertCell key c l) = if a = key then some c else lookupCell a l := by
  induction l with
  | nil => grind [insertCell, lookupCell]
  | cons p rest ih => grind [insertCell, lookupCell]

theorem lookup_erase (key a lo : Nat) (l : List (Nat × Rgb)) (hl : risingFrom lo l = true) :
    lookupCell a (eraseCell key l) = if a = key then none else lookupCell a l := by
  induction l generalizing lo with
  | nil => simp [eraseCell, lookupCell]
  | cons p rest ih =>
    obtain ⟨k, d⟩ := p
    simp only [risingFrom, Bool.and_eq_true, decide_eq_true_eq] at hl
    have above := lookup_above k (k + 1) rest hl.2 (by omega)
    have rest_eq := ih (k + 1) hl.2
    grind [eraseCell, lookupCell]

/-- A position reads what was written there, and every other position reads as before. -/
theorem Picture.read_write (p : Picture) (key a : Nat) (c : Rgb) (h : p.wf = true) :
    (p.write key c).read a = if a = key then c else p.read a := by
  simp only [Picture.wf, Bool.and_eq_true] at h
  unfold Picture.write Picture.read
  split
  · subst_vars
    simp only [lookup_erase key a 0 p.cells h.1]
    by_cases e : a = key <;> simp [e]
  · simp only [lookup_insert]
    by_cases e : a = key <;> simp [e]

end Sys2Proof.Machine
end

