-- ==== Sys2Proof/Tests/Slice0.lean ====
section
/-! SUPPORT. Tests: worked examples of spec/ with the values the spec works out, one step on a small
state each; the well-formedness smoke; and for each statement with hypotheses a state that meets
them. -/

namespace Sys2Proof.Tests

set_option Elab.async false

open Sys2Proof Sys2Proof.Machine

/-! ### Helpers -/

/-- The state after one command. -/
def after (s : State) (c : Instr) : State :=
  match exec c s with
  | .next t => t
  | .fault _ => s
  | .refused _ => s

/-- The reply being sent: its status and body. -/
def reply (s : State) : Option (Status × List Byte) := s.link.sending.map fun r => (r.status, r.body)

def bodies (s : State) : List IndBody := s.ind.queue.map Indication.body

/-- Good links, straps 0, no arbitration order named. -/
def env : Env := ⟨Four.all true, 0, []⟩

/-- The part in a mode, its scan done, INPUT_VALID high. -/
def inMode (m : PartMode) : State :=
  { State.reset with
    pins := ⟨true, Four.all true, 0⟩
    mode := ⟨m, .run⟩
    profiles := { resetProfiles freshFlash with ctl := .idle, dirRead := true, examined := 8 } }

def running : State := inMode .run

def withPend (p : PendState) (s : State) : State := s.setPendState p

def withCtl (c : Ctl) (s : State) : State := s.onProfiles (ProfileStore.setCtl c)

/-- Running in an acquisition state with the source of section 1.9 measured. -/
def acquiring (a : AcqState) (c : Cadence) (target : Nat) : State :=
  { running with acq := { resetAcq with
      state := a, measured := some ⟨1920, 1080, 41708333⟩, target := some target
      controls := ⟨false, .four, c, 2000⟩ } }

/-- A handled STATUS whose reply is being sent. -/
def handling (s : State) : State :=
  { s with link := ⟨.hunt, none, some ⟨0x03, 0x11, []⟩, some ⟨0x03, 0x11, .ok, []⟩⟩ }

def profile : Profile :=
  ⟨defaultScene, resetAcq.controls, Four.all ⟨resetControls, true⟩, 9, [0x57, 0x69, 0x64, 0x65]⟩

/-- Profile 1 SOUND in the directory, its area held, the newer directory copy 0 of generation 5. -/
def stored (s : State) : State :=
  { s with profiles := { s.profiles with
      entries := s.profiles.entries.set 1 ⟨some (true, profile.header), 17⟩
      boot := some 1
      scanCounts := (List.replicate 8 0).set 1 17
      pass0 := true
      flash := ⟨(List.replicate 8 .blank).set 1 (.held profile),
        .held ⟨5, some 1, (List.replicate 8 0).set 1 17⟩, .blank⟩ } }

/-! ### Well-formedness: each check refuses an ill-formed command -/

theorem test_wf_body_1025 : (Instr.status 0 (List.replicate 1025 0)).wellFormed = false := by decide +kernel
theorem test_wf_body_1024 : (Instr.status 0 (List.replicate 1024 0)).wellFormed = true := by decide +kernel
theorem test_wf_taker_twice :
    (Instr.presentationFrameStart ⟨Four.all true, 0, [.bank, .bank]⟩).wellFormed = false := by decide
theorem test_wf_pixel_off_its_line :
    (Instr.inputFrameEnd true ⟨[2, 2], ⟨0, 0, 0⟩, [(2, 1, ⟨1, 1, 1⟩)]⟩).wellFormed = false := by decide
theorem test_wf_pixel_on_its_line :
    (Instr.inputFrameEnd true ⟨[2, 2], ⟨0, 0, 0⟩, [(1, 1, ⟨1, 1, 1⟩)]⟩).wellFormed = true := by decide
theorem test_wf_unknown_code_catalogued : (Instr.unknownRequest 0x54 0 [] env).wellFormed = false := by decide
theorem test_wf_unknown_code : (Instr.unknownRequest 0x55 0 [] env).wellFormed = true := by decide
theorem test_wf_waiting_frame_body :
    (Instr.requestWaitsInHoldingBuffer ⟨0x03, 0, List.replicate 1025 0⟩ env).wellFormed = false := by
  decide +kernel
theorem test_wf_discarded_frame_order :
    (Instr.requestFrameDiscard ⟨0x03, 0, []⟩ ⟨Four.all true, 0, [.probe, .probe]⟩).wellFormed = false := by
  decide

/-! ### Chapter 1 (sections 1.9 and 1.10) -/

theorem test_target_period : targetPeriod 41708333 .c52 = 16683333 := by decide +kernel
theorem test_staged_periods :
    [1240, 520, -300, 80, 270000, 900000].map (stagedPeriod 16683333 5) =
      [16683302, 16683320, 16683340, 16683331, 16676583, 16667041] := by decide +kernel

/-- The start F5 of section 1.9. -/
def beforeF5 : State :=
  { running with acq := { resetAcq with
      state := .measuring, acqTimer := some .four, controls := ⟨false, .four, .c52, 2000⟩
      window := [⟨1920, 1080, 41708340⟩, ⟨1920, 1080, 41708320⟩, ⟨1920, 1080, 41708330⟩]
      frame := some ⟨1000, some (1920, 1080), none⟩ } }

theorem test_frame_start_completes_the_measurement :
    let t := after beforeF5 (.inputFrameStart true (1000 + 41708342) env)
    t.acq.state = .locking ∧ t.acq.measured = some ⟨1920, 1080, 41708333⟩ ∧ t.acq.target = some 16683333 ∧
      t.timer.mode = .follow ∧ t.acq.alignDue = true ∧ t.master.target = 4096 ∧
      (t.acq.frame.bind fun f => f.write) = none := by decide +kernel

theorem test_frame_start_aligns :
    let t := after { acquiring .locking .c52 16683333 with acq :=
        { (acquiring .locking .c52 16683333).acq with alignDue := true } } (.inputFrameStart true 5000 env)
    t.timer.current = 16683333 ∧ t.timer.staged = 16683333 ∧ t.timer.lastStart = 5000 ∧
      t.timer.counter = 1 ∧ t.acq.alignDue = false ∧ t.acq.lastCadence = some 0 ∧
      t.frames.bufs.b0 = .filling 0 0 ∧ t.frames.counter = 1 ∧ t.frames.base = none := by decide +kernel

/-- The pair at F32 of section 1.9: the eighth good pair. -/
theorem test_eighth_good_pair_locks :
    let s := acquiring .locking .c52 16683333
    let t := after { s with acq := { s.acq with good := 7, sinceCadence := 1, waitStart := some 1240 } }
      (.inputFrameStart true 0 env)
    t.acq.state = .locked ∧ t.acq.good = 0 ∧ t.acq.acqTimer = none ∧ t.timer.staged = 16683302 ∧
      bodies t = [.inputState .locked ⟨1920, 1080, 41708333⟩] := by decide +kernel

theorem test_second_bad_pair_unlocks :
    let s := acquiring .locked .c52 16683333
    let t := after { s with acq := { s.acq with bad := 1, sinceCadence := 1, waitStart := some 1042709 } }
      (.inputFrameStart true 0 env)
    t.acq.state = .locking ∧ t.acq.bad = 0 ∧ t.acq.alignDue = true := by decide +kernel

/-- Section 1.10, time 0: the frame being written is torn. -/
def writingG1 : State :=
  let s := acquiring .locked .c52 16683333
  { s with
    master := ⟨4096, 4096, 32, false⟩
    frames := { s.frames with bufs := ⟨.filling 7 0, .complete 6 0, .empty⟩ }
    timer := { s.timer with mode := .follow, current := 16683333, staged := 16683302 }
    acq := { s.acq with frame := some ⟨0, none, some ⟨0, []⟩⟩ } }

theorem test_input_valid_fall_tears_the_frame :
    let t := after writingG1 .inputValidFall
    t.acq.state = .noSignal ∧ t.acq.holdTimer = some 2000 ∧ t.frames.bufs = ⟨.empty, .complete 6 0, .empty⟩ ∧
      t.ind.flags.tornInput = true ∧ t.ind.flags.inputLost = true ∧ t.timer.mode = .free ∧
      t.timer.staged = 16683333 ∧ t.master.target = 4096 ∧ t.acq.frame = none := by decide +kernel

theorem test_guard_expiry_loses_the_input :
    (after writingG1 .inputLossGuardExpiry).acq.state = .noSignal := by decide +kernel

theorem test_acquisition_timer_expiry :
    let s := acquiring .locking .c52 16683333
    let t := after { s with acq := { s.acq with acqTimer := some .four } } .acquisitionTimerExpiry
    t.acq.state = .measuring ∧ t.ind.flags.acqTimeout = true ∧ t.acq.acqTimer = some .four ∧
      bodies t = [.acquireTimeout .locking, .inputState .measuring ⟨0, 0, 0⟩] := by decide +kernel

theorem test_hold_timer_expiry_ends_picture_allowed :
    let s := { running with master := ⟨4096, 4096, 32, false⟩, acq := { resetAcq with holdTimer := some 2000 } }
    (after s .holdTimerExpiry).master.target = 0 := by decide +kernel

theorem test_accept_input_releases_the_breakpoint :
    let t := after (acquiring .awaitAccept .c52 16683333) (.acceptInput 1 [])
    t.acq.state = .locking ∧ t.timer.mode = .follow ∧ reply t = some (.ok, []) := by decide +kernel

/-- R18, R177: hold 12000 is clamped to 10000, the previous hold 2000 = 07D0h returned. -/
theorem test_set_input_control_clamps_the_hold :
    let t := after running (.setInputControl 1 [0x08, 0, 0, 0, 0xE0, 0x2E])
    t.acq.controls = ⟨false, .four, .c11, 10000⟩ ∧
      reply t = some (.clamped, [0x08, 0, 0, 0, 0xD0, 0x07]) := by decide +kernel

/-! ### Chapter 2 (sections 2.7 and 2.8) -/

/-- Section 2.7, time 50.0: frame 101 is missing at position 3. -/
theorem test_missing_frame_slips :
    let s := acquiring .locked .c52 16683333
    let t := after { s with
        frames := { s.frames with
          bufs := ⟨.showing 100 0, .filling 103 0, .complete 102 0⟩, base := some 100 }
        timer := { s.timer with position := 2 } } (.presentationFrameStart env)
    t.frames.bufs = ⟨.complete 100 0, .filling 103 0, .showing 102 0⟩ ∧ t.frames.slips = 1 ∧
      t.ind.flags.slip = true ∧ t.timer.position = 3 := by decide +kernel

/-- Section 2.7, time 41.7: the writer takes buffer 1. -/
theorem test_writer_takes_the_oldest_complete :
    let s := acquiring .locked .c52 16683333
    (after { s with frames := { s.frames with
        bufs := ⟨.showing 100 0, .complete 101 0, .complete 102 0⟩, counter := 103 } }
      (.inputFrameStart true 0 env)).frames.bufs =
      ⟨.showing 100 0, .filling 103 0, .complete 102 0⟩ := by decide +kernel

/-- Section 2.8, time 1.0: e = -1,000,000. -/
theorem test_late_cadence_point_is_limited :
    let s := acquiring .locked .c21 20854167
    let t := after { s with
        acq := { s.acq with waitStart := some 0 }
        frames := { s.frames with
          bufs := ⟨.showing 199 0, .complete 200 0, .complete 198 0⟩, counter := 201 } }
      (.inputFrameStart true 1000000 env)
    t.timer.staged = 20874532 ∧ t.acq.bad = 0 ∧ t.acq.state = .locked ∧
      t.frames.bufs.b2 = .filling 201 0 := by decide +kernel

/-- Section 2.8, time 41.729: e = 20,366, group base 201. -/
theorem test_position_zero_start_pairs :
    let s := acquiring .locked .c21 20854167
    let t := after { s with
        acq := { s.acq with waitCadence := some 41708333, lastCadence := some 202, prevCadence := some 201 }
        timer := { s.timer with
          position := 1, lastStart := 20854167, current := 20874532, staged := 20854167 }
        frames := { s.frames with
          bufs := ⟨.filling 202 0, .showing 200 0, .complete 201 0⟩, base := some 200 } }
      (.presentationFrameStart env)
    t.timer.staged = 20852894 ∧ t.frames.base = some 201 ∧
      t.frames.bufs = ⟨.filling 202 0, .complete 200 0, .showing 201 0⟩ ∧ t.frames.slips = 0 := by
  decide +kernel

theorem test_free_period_is_clamped :
    let t := after running (.setFreePeriod 1 [0, 0, 0, 0])
    t.timer.free = 8000000 ∧ t.timer.staged = 8000000 ∧ t.timer.current = 16666667 ∧
      reply t = some (.clamped, [0x2B, 0x50, 0xFE, 0x00]) := by decide +kernel

theorem test_set_master_mutes :
    let s := { acquiring .locked .c11 16666667 with master := ⟨4096, 4096, 32, false⟩ }
    let t := after s (.setMaster 1 [3, 1, 0x01, 0x10])
    t.master = ⟨4096, 0, 4096, true⟩ ∧ reply t = some (.clamped, [3, 0, 32, 0]) := by decide +kernel

theorem test_read_counters :
    let s := { running with frames := { resetFrames with slips := 2, armed := false } }
    let t := after s (.readCounters 1 [])
    t.frames.slips = 0 ∧ t.frames.armed = true ∧
      reply t = some (.ok, [2, 0, 0xE8, 0x03, 0, 0, 0, 0, 0, 0, 0, 0, 0, 0]) := by decide +kernel

theorem test_slip_threshold_zero_is_one :
    let t := after running (.setSlipThreshold 1 [0, 0])
    t.frames.threshold = 1 ∧ reply t = some (.clamped, [0xE8, 0x03]) := by decide +kernel

/-- R25, R85: a good frame end completes the buffer with decoded pixels. -/
theorem test_good_frame_end_stores_the_picture :
    let s := acquiring .locking .c52 16683333
    let t := after { s with
        acq := { s.acq with
          measured := some ⟨2, 1, 41708333⟩, frame := some ⟨0, none, some ⟨1, defaultDecode⟩⟩ }
        frames := { s.frames with bufs := ⟨.empty, .filling 4 0, .empty⟩ } }
      (.inputFrameEnd true ⟨[2], ⟨0, 0, 0⟩, [(1, 0, ⟨750, 1250, 500⟩)]⟩)
    t.frames.bufs.b1 = .complete 4 0 ∧ t.frames.mem.b1 = ⟨black, [(1, ⟨12000, 20000, 8000⟩)]⟩ := by
  decide +kernel

/-! ### Chapters 3 to 5: one pixel (sections 3.8 to 5.6) -/

/-- Output 0's encode table of section 5.6. -/
def encode56 : List Nat :=
  [(1, 180), (13, 860), (14, 900), (18, 1030), (19, 1062), (21, 1130), (22, 1162), (37, 1520),
    (38, 1545)].foldl (fun l p => l.set p.1 p.2) (List.replicate 257 0)

def points38 : List Point :=
  [(32, ⟨16640, 8320, 1024⟩), (33, ⟨17664, 8352, 1024⟩), (63, ⟨16608, 9344, 1024⟩),
    (64, ⟨17632, 9376, 1024⟩)].foldl (fun l p => l.set p.1 p.2) defaultPoints

/-- The scene of sections 3.8, 4.7 and 5.6. -/
def scene56 : Scene :=
  { defaultScene with
    canvasW := 2048, ceiling := 2
    outs :=
      { defaultScene.outs with
        o0 := ⟨64, points38, ⟨0, 1152, 0, 1080, 0, 256, 0, 0⟩, ⟨⟨4096, 4096, 3800⟩, ⟨40, 40, 40⟩⟩, encode56⟩
        o1 := { defaultOutput with
          coverage := ⟨896, 2048, 0, 1080, 256, 0, 0, 0⟩, tone := ⟨⟨4096, 4096, 4096⟩, ⟨40, 40, 40⟩⟩ } } }

def store56 (flagged : Bool) : BankStore := ⟨scene56, Four.all ((List.replicate 1200 false).set 31 flagged)⟩

def picture38 : Picture :=
  [(1075, 527, 20000), (1076, 527, 20800), (1075, 528, 20400), (1076, 528, 21200)].foldl
    (fun pic p => pic.write (pixelKey p.1 p.2.1) ⟨12000, p.2.2, 8000⟩) blankPicture

/-- Frame 32 of output 1's fade-in. -/
def stages56 (level : Nat) : PixelStages :=
  (store56 false).stages (some picture38) ⟨4096, 2048, 0, 0⟩ level .normal 0 100 70

theorem test_warp_and_sample :
    let p := stages56 4096
    (p.sx, p.sy, p.gain, p.degraded) = (17213, 8434, 1024, false) ∧ (p.x, p.y) = (1075, 527) ∧
      p.sample = ⟨12000, 20700, 8000⟩ := by decide +kernel

theorem test_blend_of_frame_32 :
    let p := stages56 4096
    (p.reaches.o0.reach, p.reaches.o1.reach, p.reaches.o2.reach) = (1224, 2872, 4096) ∧
      p.reaches.o1.scaled = 1436 ∧ p.sum = 2660 ∧ p.weight = 1885 ∧ p.cover = 6144 ∧ p.room = 2048 := by
  decide +kernel

theorem test_light_path :
    let p := stages56 4096
    p.red = ⟨9, 5531, 5531, 1149⟩ ∧ p.green = ⟨9, 9535, 9535, 1526⟩ ∧ p.blue = ⟨9, 3425, 3425, 875⟩ := by
  decide +kernel

theorem test_light_path_in_a_fade :
    (stages56 2048).green.scaled = 4768 ∧ (stages56 2048).green.code = 1050 := by decide +kernel

/-- Nothing SHOWING: the lifted floor. -/
theorem test_light_path_without_picture :
    ((store56 false).stages none ⟨4096, 2048, 0, 0⟩ 4096 .normal 0 100 70).green = ⟨9, 9, 9, 6⟩ := by
  decide +kernel

/-- The flagged cell of section 3.8 samples pixel (1076, 527). -/
theorem test_degraded_cell_samples_the_nearest :
    ((store56 true).stages (some picture38) ⟨4096, 2048, 0, 0⟩ 4096 .normal 0 100 70).sample.g = 20800 := by
  decide +kernel

theorem test_weight_of_output_1 : weightOf 1436 2660 = 2211 ∧ liftOf 40 2048 2211 = 11 := by decide +kernel

/-- Section 3.9: the last pixel of a raster 1921 wide. -/
theorem test_last_column :
    let st := (⟨{ defaultScene with rasterW := 1921 }, Four.all clearFlags⟩ : BankStore)
    (st.meshWarp 2 1920 1079).sx = 30720 ∧ (st.meshWarp 2 1920 1079).sy = 17264 ∧
      (st.meshWarp 2 1919 1079).sx = 30704 := by decide +kernel

/-- Section 3.10: the mesh of horizontal scale `w` sixteenths a column. -/
def wide (w : Int) : Scene :=
  { defaultScene with
    canvasW := 4096, canvasH := 2304
    outs := { defaultScene.outs with o1 := { defaultOutput with
      points := (List.range 1200).map fun n => ⟨w * (n % 31 : Nat), 1024 * (n / 31 : Nat), 1024⟩ } } }

theorem test_long_edges_degrade :
    (wide 2176).cellDegrades 1 20 4 = true ∧ (wide 2048).cellDegrades 1 20 4 = false ∧
      ((⟨wide 2176, Four.all clearFlags⟩ : BankStore).meshWarp 1 1290 286).sx = 43860 ∧
      ((⟨wide 2176, Four.all clearFlags⟩ : BankStore).meshWarp 1 1290 286).sy = 4576 := by decide +kernel

/-- R71: the ramp of a feather of 256. -/
theorem test_feather_ramp :
    [0, 1, 2, 127, 128, 254, 255, 256].map (edgeFactor · 256) =
      [8, 24, 40, 2040, 2056, 4072, 4088, 4096] := by decide +kernel

/-- Section 4.8: the corner of the tile. -/
theorem test_reach_in_the_corner :
    (⟨0, 2048, 0, 1208, 0, 256, 0, 256⟩ : Coverage).reach 1900 1100 = 991 ∧
      (⟨1792, 3840, 952, 2160, 256, 0, 256, 0⟩ : Coverage).reach 1900 1100 = 1007 := by decide +kernel

/-- Section 4.9: weights after output 3 is lost. -/
theorem test_weights_after_a_loss : [991, 729, 1369].map (weightOf · 3089) = [1314, 967, 1815] := by
  decide +kernel

theorem test_decode_of_input_codes :
    [1250, 1300, 1275, 1325].map (decodeCode defaultDecode) = [20000, 20800, 20400, 21200] := by
  decide +kernel

/-- R75: small scaled reaches. -/
theorem test_scaled_reach : scaledReach 40 64 = 1 ∧ scaledReach 20 64 = 0 := by decide +kernel

/-! ### Chapter 6 (sections 6.8 and 6.9) -/

/-- Output 1 ACTIVE at full presence with two bad samples behind it. -/
def losing (p : Policy) : State :=
  let c : Channel := ⟨.active, 4096, 0, 2, { resetControls with policy := p }, 4096, .normal, .computed⟩
  { acquiring .locked .c11 16666667 with
    chans := { State.reset.chans with o1 := c }, master := ⟨4096, 4096, 32, false⟩ }

def badLink (order : List Taker) : Env := ⟨⟨true, false, true, true⟩, 0, order⟩

/-- Start 1002 under REFILL. -/
theorem test_third_bad_sample_loses_the_output :
    let t := after (losing .refill) (.presentationFrameStart (badLink []))
    (t.chan 1).state = .lost ∧ (t.chan 1).presence = 0 ∧ (t.chan 1).badRun = 0 ∧
      (t.chan 1).port = .code0 ∧ t.ind.flags.outputLost = ⟨false, true, false, false⟩ ∧
      bodies t = [.outputState 1 .lost .linkLost] ∧ t.master.level = 4096 := by decide +kernel

/-- Start 1002 under ALL_BLACK, the channel or the Master Level unit first. -/
theorem test_all_black_channel_first :
    (after (losing .allBlack) (.presentationFrameStart (badLink [.channel 1, .master]))).master =
      ⟨4064, 0, 32, false⟩ := by decide +kernel
theorem test_all_black_master_first :
    (after (losing .allBlack) (.presentationFrameStart (badLink [.master, .channel 1]))).master =
      ⟨4096, 0, 32, false⟩ := by decide +kernel

/-- Start 1078: the forty-eighth good sample. -/
theorem test_settled_link_rejoins :
    let s := { running with chans := { State.reset.chans with
      o1 := ⟨.lost, 0, 47, 0, resetControls, 0, .normal, .code0⟩ } }
    let t := after s (.presentationFrameStart env)
    (t.chan 1).state = .active ∧ (t.chan 1).presence = 64 ∧ (t.chan 1).goodRun = 0 ∧
      (t.chan 1).port = .computed ∧ bodies t = [.outputState 1 .active .linkBack] := by decide +kernel

/-- Section 6.9: the last fall, and a bad sample in RETIRING. -/
def retiring (presence : Nat) : State :=
  { running with chans := { State.reset.chans with
    o1 := ⟨.retiring, presence, 9, 0, resetControls, presence, .normal, .computed⟩ } }

theorem test_retirement_ends_at_zero :
    bodies (after (retiring 128) (.presentationFrameStart env)) = [.outputState 1 .disabled .rampDone] := by
  decide +kernel
theorem test_bad_sample_ends_retirement :
    let t := after (retiring 3456) (.presentationFrameStart (badLink []))
    (t.chan 1).presence = 0 ∧ bodies t = [.outputState 1 .disabled .linkLost] ∧
      t.ind.flags.outputLost.o1 = false := by decide +kernel
theorem test_enable_reverses_retirement :
    let t := after (retiring 2816) (.outputEnable 1 [1])
    (t.chan 1).state = .active ∧ reply t = some (.ok, [2, 0x00, 0x0B]) := by decide +kernel
theorem test_disable_retires :
    let t := after (losing .refill) (.outputDisable 1 [1])
    (t.chan 1).state = .retiring ∧ reply t = some (.ok, [3, 0x00, 0x10]) := by decide +kernel
theorem test_rejoin_of_an_active_output :
    reply (after (losing .refill) (.outputRejoin 1 [1])) = some (.wrongState, []) := by decide +kernel
theorem test_set_output_control_previous :
    let t := after running (.setOutputControl 1 [2, 0x01, 0x01, 16, 0, 0, 0, 0, 0, 0, 9, 9, 9, 9, 0xFF, 0xFF])
    (t.chan 2).controls = { resetControls with lossConfirm := 15, level := 4095 } ∧
      reply t = some (.clamped, [2, 0x01, 0x01, 3, 0, 0, 0, 0, 0, 0, 0, 0, 0, 0, 0x00, 0x08]) := by
  decide +kernel

/-! ### Chapters 3, 4, 5 and 7: requests -/

theorem test_write_scene_clamps :
    let t := after running (.writeScene 1 [0x11, 0x00, 0x08, 0, 0, 0, 0, 0, 0, 0])
    t.pendingBank.scene.canvasW = 2048 ∧ t.pendingBank.scene.ceiling = 1 ∧
      reply t = some (.clamped, []) ∧ t.active.scene.canvasW = 1920 := by decide +kernel
theorem test_write_layout :
    let t := after running (.writeLayout 1 [3, 128])
    (t.pendingBank.scene.outs.get 3).pitch = 128 ∧ reply t = some (.ok, []) := by decide +kernel
theorem test_write_mesh_last_record :
    let t := after running (.writeMesh 1 [2, 0xAF, 0x04, 1, 0xFF, 0xBF, 0xFF, 0xFF, 0, 0, 0, 0, 0, 8])
    (t.pendingBank.scene.outs.get 2).points[1199]? = some ⟨-16384, 0, 2048⟩ ∧
      reply t = some (.clamped, []) := by decide +kernel
theorem test_write_mesh_past_the_end :
    reply (after running (.writeMesh 1 [2, 0xB0, 0x04, 1, 0, 0, 0, 0, 0, 0, 0, 0, 0, 0])) =
      some (.badArgument, []) := by decide +kernel
theorem test_write_coverage :
    let t := after running (.writeCoverage 1 [0, 0, 0, 0x90, 4, 0, 0, 0x38, 4, 0, 0, 0x20, 1, 0, 0, 0, 0])
    (t.pendingBank.scene.outs.get 0).coverage = ⟨0, 1168, 0, 1080, 0, 288, 0, 0⟩ ∧
      reply t = some (.ok, []) := by decide +kernel
theorem test_write_tone_clamps :
    let t := after running (.writeTone 1 [1, 0, 0x10, 0, 0x20, 0xD8, 0x0E, 40, 0, 0, 4, 0, 0])
    (t.pendingBank.scene.outs.get 1).tone = ⟨⟨4096, 8191, 3800⟩, ⟨40, 1023, 0⟩⟩ ∧
      reply t = some (.clamped, []) := by decide +kernel
theorem test_write_table :
    let t := after running (.writeTable 1 [1, 0, 1, 1, 0x00, 0x10])
    (t.pendingBank.scene.outs.get 0).encode[256]? = some 4095 ∧ reply t = some (.clamped, []) := by
  decide +kernel
theorem test_read_mesh :
    reply (after running (.readMesh 1 [0, 0, 32, 0, 1])) =
      some (.ok, [64, 32, 0, 1, 0x00, 0x04, 0, 0, 0x00, 0x04, 0, 0, 0x00, 0x04]) := by decide +kernel
theorem test_read_bank_info_coverage :
    reply (after running (.readBankInfo 1 [1, 1, 3])) =
      some (.ok, [0, 0, 0x80, 0x07, 0, 0, 0x38, 0x04, 0, 0, 0, 0, 0, 0, 0, 0]) := by decide +kernel

/-- Section 7.10, step 4: output 1's right edge 2080 lies past the canvas. -/
theorem test_commit_names_the_first_failure :
    let sc := { defaultScene with canvasW := 2048, outs := { defaultScene.outs with
      o1 := { defaultOutput with coverage := ⟨880, 2080, 0, 1080, 288, 0, 0, 0⟩ } } }
    let t := after (running.setPendingBank ⟨sc, Four.all clearFlags⟩) (.commit 1 [])
    t.banks.pendState = .editable ∧ reply t = some (.invalid, [1, 1, 0, 0]) := by decide +kernel
theorem test_disarm :
    (after (withPend .armed running) (.disarm 1 [])).banks.pendState = .editable := by decide +kernel
theorem test_revert :
    (after running (.revert 1 [])).banks.pendState = .syncing := by decide +kernel
theorem test_copy_back_completion :
    let t := after (withPend .syncing running) .copyBackCompletion
    t.banks.pendState = .editable ∧ bodies t = [.bankReady] := by decide +kernel

/-- Section 7.10, steps 8 and 10. -/
theorem test_swap_waits_for_a_store :
    let s := withCtl (.storing 2 profile false) (withPend .armed running)
    (after s (.presentationFrameStart env)).banks.pendState = .armed := by decide +kernel
theorem test_swap :
    let s := withPend .armed running
    let t := after { s with banks := { s.banks with revision := 12 } } (.presentationFrameStart env)
    t.banks.pendState = .syncing ∧ t.banks.revision = 13 ∧ t.banks.activeIsOne = true ∧
      bodies t = [.bankSwapped 13] := by decide +kernel

/-- Section 5.7: a probe is served at the start, in the frame that begins. -/
theorem test_probe_is_served :
    let t := after { running with probe := .waiting 0 1920 5 } (.presentationFrameStart env)
    t.probe = .ready ⟨0, 1920, 5, .normal, 0, 1, none, none, black⟩ ∧ bodies t = [.probeReady 0] := by
  decide +kernel
theorem test_probe_inside_the_raster :
    let t := after running (.probe 1 [0, 0x7F, 0x07, 0x37, 0x04])
    t.probe = .waiting 0 1919 1079 ∧ reply t = some (.ok, []) := by decide +kernel
theorem test_probe_outside_the_raster :
    reply (after running (.probe 1 [0, 0x80, 0x07, 0, 0])) = some (.badArgument, []) := by decide +kernel
theorem test_probe_read_while_waiting :
    reply (after { running with probe := .waiting 0 0 0 } (.probeRead 1 [])) = some (.busy, []) := by
  decide +kernel

/-! ### Chapter 8 -/

theorem test_standby_request :
    let t := after running (.standby 1 [])
    t.mode = ⟨.dimming, .run⟩ ∧ reply t = some (.ok, [3]) ∧ bodies t = [.modeChange .dimming] := by
  decide +kernel
theorem test_dimming_ends_in_standby :
    let t := after { inMode .dimming with master := ⟨32, 0, 32, false⟩ } (.presentationFrameStart env)
    t.mode.mode = .standby ∧ t.timer.running = false ∧ t.acq.state = .noSignal := by decide +kernel
theorem test_wake_request :
    let s := { inMode .standby with timer := { resetTimer with running := false } }
    let t := after s (.wake 1 [] env)
    t.mode.mode = .run ∧ t.timer.running = true ∧ t.timer.counter = 1 ∧ reply t = some (.ok, [2]) := by
  decide +kernel
theorem test_wake_pin_cancels_dimming :
    (after (inMode .dimming) (.wakeN env)).mode.mode = .run := by decide +kernel
theorem test_profile_load :
    let t := after (stored running) (.profileLoad 1 [1, 1])
    t.profiles.ctl = .loading 1 true ∧ t.banks.pendState = .loading ∧ reply t = some (.ok, []) := by
  decide +kernel
theorem test_load_completion_arms :
    let t := after (withPend .loading (withCtl (.loading 1 true) (stored running))) (.loadCompletion true)
    t.banks.pendState = .armed ∧ bodies t = [.profileDone (some 1) .load .ok] := by decide +kernel
theorem test_profile_store_stale :
    reply (after running (.profileStore 1 [3, 12, 0, 1, 0x41])) = some (.stale, []) := by decide +kernel
theorem test_store_completion_counts :
    let t := after (withCtl (.storing 1 profile true) (stored running)) (.storeCompletion true true)
    t.profiles.entry 1 = ⟨some (true, ⟨9, [0x57, 0x69, 0x64, 0x65], 1920, 1080⟩), 18⟩ ∧
      t.profiles.flash.copy1 = .held ⟨6, some 1, [0, 18, 0, 0, 0, 0, 0, 0]⟩ := by decide +kernel
theorem test_profile_erase :
    (after (stored running) (.profileErase 1 [1])).profiles.ctl =
      .erasing 1 (.blanking profile) false := by decide +kernel
theorem test_erase_completion_clears_the_boot_choice :
    let t := after (withCtl (.erasing 1 (.blanking profile) true) (stored running)) (.eraseCompletion true true)
    t.profiles.boot = none ∧ t.profiles.entry 1 = ⟨none, 17⟩ := by decide +kernel
theorem test_profile_set_boot_empty :
    reply (after (stored running) (.profileSetBoot 1 [2])) = some (.noProfile, []) := by decide +kernel
theorem test_directory_completion :
    (after (withCtl (.writingDirectory none) (stored running)) (.directoryCompletion true)).profiles.boot =
      none := by decide +kernel
theorem test_directory_write_begins :
    let t := after (withCtl (.storing 1 profile false) (stored running)) .directoryWriteBegin
    t.profiles.ctl = .storing 1 profile true ∧ t.profiles.flash.copy1 = .torn := by decide +kernel
theorem test_profile_list_head :
    ((reply (after (stored running) (.profileList 1 []))).map fun r => (r.2.length, r.2.take 4)) =
      some (204, [1, 0xFF, 1, 8]) := by decide +kernel

/-- Section 8.6: the scan after the reset, its areas read. -/
theorem test_scan_after_a_cut_store :
    let s := stored State.reset
    let s := { s with profiles := resetProfiles { s.profiles.flash with
      areas := s.profiles.flash.areas.set 1 (.torn profile) } }
    let t := after s .scanCompletion
    t.mode.mode = .setup ∧ t.profiles.boot = some 1 ∧ t.profiles.entry 1 = ⟨some (false, profile.header), 17⟩ ∧
      t.ind.flags.profileBad = true ∧
      bodies t = [.profileDone (some 1) .boot .badCheck, .modeChange .setup] := by decide +kernel
theorem test_scan_boots :
    let s := stored State.reset
    let t := after { s with profiles := resetProfiles s.profiles.flash } .scanCompletion
    t.mode.mode = .run ∧ t.banks.revision = 9 ∧ (t.chan 3).state = .acquiring := by decide +kernel
theorem test_area_examined :
    let s := { State.reset with profiles := { resetProfiles (stored State.reset).profiles.flash with
      examined := 1 } }
    (after s (.profileAreaExamined (.area .fails))).profiles.entry 1 =
      ⟨some (false, profile.header), 0⟩ := by decide +kernel
theorem test_held_area_that_reads_blank_is_empty :
    let s := { State.reset with profiles := { resetProfiles (stored State.reset).profiles.flash with
      examined := 1 } }
    (after s (.profileAreaExamined (.area .blank))).profiles.entry 1 = ⟨none, 0⟩ := by decide +kernel

/-- A scan after an erase that left the area not blank. -/
theorem test_area_a_failed_erase_left_can_pass :
    let t := after (withCtl (.erasing 1 (.blanking profile) true) (stored running)) (.eraseCompletion false true)
    let u := { State.reset with profiles := { resetProfiles t.profiles.flash with examined := 1 } }
    t.profiles.entry 1 = ⟨some (false, profile.header), 17⟩ ∧
      (after u (.profileAreaExamined (.area .passes))).profiles.entry 1 =
        ⟨some (true, profile.header), 0⟩ := by decide +kernel

/-! ### Chapters 9 and 10 -/

/-- Section 9.3: the second request waits, the third is discarded. -/
theorem test_second_request_waits :
    (after (handling running) (.profileList 0x12 [])).link.holding = some ⟨0x54, 0x12, []⟩ := by
  decide +kernel
theorem test_third_request_is_discarded :
    let s := after (handling running) (.requestWaitsInHoldingBuffer ⟨0x54, 0x12, []⟩ env)
    let t := after s (.requestFrameDiscard ⟨0x09, 0x13, []⟩ env)
    t.ind.flags.linkDiscard = true ∧ t.link.holding = some ⟨0x54, 0x12, []⟩ := by decide +kernel
theorem test_reply_end_hands_over :
    let t := after (after (handling running) (.profileList 0x12 [])) (.replyTransmitEnd env)
    t.link.handling = some ⟨0x54, 0x12, []⟩ ∧ t.link.holding = none ∧
      (t.link.sending.map fun r => r.bytes.length) = some 210 := by decide +kernel
theorem test_reset_request_and_its_end :
    let t := after running (.reset 1 [])
    reply t = some (.ok, []) ∧ (after t (.replyTransmitEnd env)).mode.mode = .startup := by decide +kernel
theorem test_reset_pin_reads_the_straps : (after running (.resetN 2)).pins.straps = 2 := by decide +kernel
theorem test_last_byte_completes_the_frame :
    let s := { running with link := { resetLink with rx := .header [0x01, 0x44, 0x00] } }
    (after s (.rxdByteReceived 0 env)).link.sending =
      some ⟨0x01, 0x44, .ok, [0x04, 0x0B, 1, 0, 0x00, 0x04]⟩ := by decide +kernel
theorem test_gap_expiry_discards :
    let s := { running with link := { resetLink with rx := .body 1 2 3 [4] } }
    (after s .interByteGapExpiry).link.rx = .hunt := by decide +kernel
theorem test_oversize_discards :
    let s := { running with link := { resetLink with rx := .header [1, 2, 3] } }
    (after s (.frameReceiveError .oversize)).ind.flags.linkDiscard = true := by decide +kernel
theorem test_unknown_request :
    reply (after running (.unknownRequest 0x7F 1 [1, 2] env)) = some (.unknownRequest, []) := by decide +kernel
theorem test_bad_length : reply (after running (.identify 1 [0])) = some (.badLength, []) := by decide +kernel
theorem test_starting :
    reply (after State.reset (.setMask 1 [0, 0])) = some (.starting, []) := by decide +kernel
theorem test_set_mask :
    let t := after running (.setMask 1 [0x04, 0x01])
    t.ind.mask = 0x0104 ∧ reply t = some (.ok, [0, 0]) := by decide +kernel
theorem test_identify :
    reply (after running (.identify 1 [])) = some (.ok, [0x04, 0x0B, 1, 0, 0x00, 0x04]) := by decide +kernel
theorem test_status_after_reset :
    reply (after State.reset (.status 1 [])) = some (.ok, List.replicate 25 0) := by decide +kernel

/-- Section 10.5. -/
def fullQueue : State :=
  { running with ind := { resetInd with queue := List.replicate 32 ⟨.bankReady, 1⟩, attnN := false } }

theorem test_full_queue_overruns :
    let t := after (withPend .syncing fullQueue) .copyBackCompletion
    t.ind.queue.length = 32 ∧ t.ind.flags.queueOverrun = true ∧ t.banks.pendState = .editable := by
  decide +kernel
theorem test_fetch_takes_eight :
    let t := after fullQueue (.fetch 1 [])
    t.ind.queue.length = 24 ∧ t.ind.attnN = false ∧
      ((reply t).map fun r => (r.2.length, r.2.take 19)) =
        some (145, [8, 4, 0, 0xFF, 0, 0, 0, 1, 0, 0, 0, 0, 0, 0, 0, 0, 0, 0, 0]) := by decide +kernel
theorem test_status_clears_the_overrun :
    let s := { running with ind := { resetInd with flags := { noFlags with queueOverrun := true } } }
    let t := after s (.status 1 [])
    t.ind.flags = noFlags ∧ ((reply t).map fun r => r.2.drop 23) = some [0x00, 0x02] := by decide +kernel

/-! ### Witnesses: for each statement with hypotheses, states and operands that meet them together, per
clause, at boundary values -/

def queued (c : Instr) (s : State) : State := { s with pending := [c] }

theorem witness_EveryStepKeepsTheTargetFollowing :
    (queued (.setMaster 1 [1, 1, 0, 0]) (losing .refill)).TargetFollows ∧
      ∃ t, step (queued (.setMaster 1 [1, 1, 0, 0]) (losing .refill)) = .next t :=
  ⟨by unfold State.TargetFollows; decide +kernel, _, rfl⟩

theorem witness_EveryStepKeepsTheIndicationQueueSound :
    (queued (.fetch 1 []) fullQueue).QueueSound ∧ ∃ t, step (queued (.fetch 1 []) fullQueue) = .next t :=
  ⟨⟨by decide +kernel, by decide +kernel⟩, _, rfl⟩

theorem witness_EveryStepKeepsTheChannelsSound :
    (queued (.presentationFrameStart env) (losing .hold)).ChannelsSound ∧
      ∃ t, step (queued (.presentationFrameStart env) (losing .hold)) = .next t :=
  ⟨fun k => by refine ⟨?_, ?_, ?_, ?_, ?_, ?_⟩ <;> revert k <;> decide +kernel, _, rfl⟩

def asleep : State := { inMode .standby with timer := { resetTimer with running := false } }

theorem asleep_dark : asleep.Dark where
  stopped := rfl
  level := rfl
  input := rfl
  frame := rfl
  acquire := rfl
  hold := rfl
  buffers := rfl
  chans := fun k => by refine ⟨?_, ?_⟩ <;> revert k <;> decide +kernel
  probe := nofun

theorem witness_EveryStepKeepsStandbyDark :
    asleep.mode.mode = .standby ∧ (queued (.outputEnable 1 [0]) asleep).StandbyDark ∧
      ∃ t, step (queued (.outputEnable 1 [0]) asleep) = .next t :=
  ⟨rfl, fun _ => { asleep_dark with }, _, rfl⟩

theorem writingG1_buffers : writingG1.BuffersSound where
  oneShowing := by
    rintro b c ⟨n, v, h⟩
    match b with
    | 0 => cases h
    | 1 => cases h
    | 2 => cases h
  filling := fun b =>
    match b with
    | 0 => ⟨fun _ => ⟨⟨0, []⟩, rfl, rfl⟩, fun _ => ⟨7, 0, rfl⟩⟩
    | 1 => ⟨(fun ⟨_, _, h⟩ => by cases h), (fun ⟨w, h, e⟩ => by cases h; cases e)⟩
    | 2 => ⟨(fun ⟨_, _, h⟩ => by cases h), (fun ⟨w, h, e⟩ => by cases h; cases e)⟩
  locked := fun _ => rfl

theorem witness_EveryStepKeepsTheBuffersSound :
    (queued .inputValidFall writingG1).BuffersSound ∧ (queued .inputValidFall writingG1).PicturesCanonical ∧
      ∃ t, step (queued .inputValidFall writingG1) = .next t :=
  ⟨{ writingG1_buffers with }, by unfold State.PicturesCanonical; decide +kernel, _, rfl⟩

theorem step_frame_start (s : State) : ∃ t, step (queued (.presentationFrameStart env) s) = .next t :=
  ⟨_, rfl⟩

theorem blank_profile {P : Profile → Prop} (p : Profile) (hp : Area.blank.profile? = some p) : P p :=
  nomatch hp

theorem held_profile {P : Profile → Prop} (h : P profile) (p : Profile)
    (hp : (Area.held profile).profile? = some p) : P p := Option.some.inj hp ▸ h

/-- An ARMED bank beside a stored profile. -/
def armedState : State := queued (.presentationFrameStart env) (withPend .armed (stored running))

theorem stored_areas {P : Area → Prop} (blank : P .blank) (held : P (.held profile)) :
    ∀ a ∈ armedState.profiles.flash.areas, P a := by
  intro a h
  rcases List.mem_or_eq_of_mem_set h with h | h
  · exact List.eq_of_mem_replicate h ▸ blank
  · exact h ▸ held

theorem default_valid : defaultScene.valid = true := by decide +kernel

theorem witness_EveryStepKeepsTheScenesValid :
    armedState.ScenesValid ∧ armedState.banks.pendState = .armed ∧ ∃ t, step armedState = .next t :=
  ⟨⟨default_valid, fun _ => default_valid,
    stored_areas (P := Area.Valid) (blank_profile (P := fun p => p.scene.valid = true)) (held_profile (P := fun p => p.scene.valid = true) default_valid), trivial⟩,
    rfl, step_frame_start _⟩

theorem default_points_inRange : ∀ p ∈ defaultPoints, p.InRange := by
  intro p h
  obtain ⟨n, hn, rfl⟩ := List.mem_map.1 h
  have h1 : n < 1200 := List.mem_range.1 hn
  constructor <;> simp only [defaultPoint, Config.minCoord, Config.maxCoord, Config.maxMeshGain] <;> omega

theorem default_inRange : defaultScene.InRange where
  canvasW := by decide
  canvasH := by decide
  rasterW := by decide
  rasterH := by decide
  ceiling := by decide
  entries := by decide +kernel
  decode := by decide +kernel
  outs := fun k => by
    have h : defaultScene.outs.get k = defaultOutput := by revert k; exact fun
      | 0 => rfl
      | 1 => rfl
      | 2 => rfl
      | 3 => rfl
    rw [h]
    exact ⟨by decide, by decide +kernel,
      fun p hp => default_points_inRange p (by simpa only [defaultOutput] using hp), by constructor <;> decide +kernel,
      ⟨by unfold Rgb.AtMost; decide +kernel, by unfold Rgb.AtMost; decide +kernel⟩, by decide +kernel, by decide +kernel⟩

theorem witness_EveryStepKeepsTheBanksInRange :
    armedState.BanksInRange ∧ ∃ t, step armedState = .next t :=
  ⟨⟨default_inRange, default_inRange,
    stored_areas (P := Area.InRange) (blank_profile (P := fun p => p.scene.InRange)) (held_profile (P := fun p => p.scene.InRange) default_inRange), trivial⟩,
    step_frame_start _⟩

theorem reset_controls_inRange : resetControls.InRange := by constructor <;> decide

theorem four_controls (k : Output) : ((Four.all (StoredOutput.mk resetControls true)).get k).controls.InRange := by
  match k with
  | 0 => exact reset_controls_inRange
  | 1 => exact reset_controls_inRange
  | 2 => exact reset_controls_inRange
  | 3 => exact reset_controls_inRange

theorem reset_channels_controls (k : Output) : ((Four.all resetChannel).get k).controls.InRange := by
  match k with
  | 0 => exact reset_controls_inRange
  | 1 => exact reset_controls_inRange
  | 2 => exact reset_controls_inRange
  | 3 => exact reset_controls_inRange

theorem witness_EveryStepKeepsTheRegistersInRange :
    armedState.RegistersInRange ∧ ∃ t, step armedState = .next t :=
  ⟨⟨by decide +kernel, by decide +kernel, by decide +kernel, by decide +kernel, by decide +kernel,
    by decide +kernel, by decide +kernel, reset_channels_controls,
    stored_areas (P := Area.ControlsInRange) (blank_profile (P := fun p => p.ControlsInRange))
      (held_profile (P := Profile.ControlsInRange) ⟨by decide, four_controls⟩), trivial⟩,
    step_frame_start _⟩

theorem witness_EveryStepKeepsTheDirectoryWhole :
    (queued (.storeCompletion true true) (withCtl (.storing 1 profile true) (stored running))).DirectoryWhole ∧
      ∃ t, step (queued (.storeCompletion true true)
        (withCtl (.storing 1 profile true) (stored running))) = .next t :=
  ⟨⟨by decide +kernel, by decide +kernel, by decide +kernel, by decide +kernel,
    fun d h => by cases h; decide +kernel, nofun, by decide +kernel⟩, _, rfl⟩

theorem witness_EveryStepKeepsTheLinkSound :
    (queued (.replyTransmitEnd env) (handling running)).LinkSound ∧
      ∃ t, step (queued (.replyTransmitEnd env) (handling running)) = .next t :=
  ⟨⟨rfl, nofun, trivial⟩, _, rfl⟩

theorem witness_BothResetsRestoreTheResetValues :
    (after running (.reset 1 [])).link.sending = some ⟨0x02, 1, .ok, []⟩ ∧ running.Free := ⟨rfl, rfl⟩

theorem witness_RequestWaitsOrIsDiscarded :
    (Instr.fetch 7 []).frame? = some ⟨0x04, 7, []⟩ ∧
      (handling running).link.handling = some ⟨0x03, 0x11, []⟩ ∧ (handling running).link.holding = none ∧
      (after (handling running) (.fetch 7 [])).link.handling = some ⟨0x03, 0x11, []⟩ ∧
      (after (handling running) (.fetch 7 [])).link.holding = some ⟨0x04, 7, []⟩ := ⟨rfl, rfl, rfl, rfl, rfl⟩

theorem witness_LinkAndStartupRefusals :
    (Instr.unknownRequest 0x55 7 [] env).frame? = some ⟨0x55, 7, []⟩ ∧ running.Free ∧
      (0x55 : Byte).toNat ∉ catalogueCodes ∧
      (Instr.setMask 7 [0]).frame? = some ⟨0x05, 7, [0]⟩ ∧ (0x05 : Byte).toNat ∈ catalogueCodes ∧
      catalogueFits (0x05 : Byte).toNat [0] = false ∧
      State.reset.mode.mode = .startup ∧ State.reset.Free ∧ catalogueFits (0x05 : Byte).toNat [0, 0] = true :=
  ⟨rfl, rfl, by decide, rfl, by decide, by decide, rfl, rfl, by decide⟩

/-- No waiting request; a waiting FETCH; a waiting WAKE. -/
theorem witness_ReplyEndHandsOverTheWaitingRequest :
    (handling running).link.sending = some ⟨0x03, 0x11, .ok, []⟩ ∧
      ¬ ((0x03 : Byte) = 0x02 ∧ Status.ok = .ok) ∧ (handling running).link.holding = none ∧
      (after (handling running) (.fetch 7 [])).link.sending = some ⟨0x03, 0x11, .ok, []⟩ ∧
      (after (handling running) (.fetch 7 [])).link.holding = some ⟨0x04, 7, []⟩ ∧
      (Instr.fetch 7 []).frame? = some ⟨0x04, 7, []⟩ ∧ (0x04 : Byte) ≠ 0x09 ∧
      (after (handling asleep) (.wake 7 [] env)).link.holding = some ⟨0x09, 7, []⟩ ∧
      (Instr.wake 7 [] env).frame? = some ⟨0x09, 7, []⟩ :=
  ⟨rfl, by decide, rfl, rfl, rfl, rfl, by decide, rfl, rfl⟩

def receiving (r : Receiver) : State := { running with link := { resetLink with rx := r } }

/-- Lengths 0, 1, 1024 and 1025; the last byte of a body and the one before it. -/
theorem witness_ReceiverAssemblesAndDiscardsFrames :
    running.link.rx = .hunt ∧ (receiving (.header [1, 2])).link.rx = .header [1, 2] ∧
      (receiving (.header [1, 2, 0])).link.rx = .header [1, 2, 0] ∧
      (0 : Byte).toNat + 256 * (0 : Byte).toNat = 0 ∧ (1 : Byte).toNat + 256 * (0 : Byte).toNat = 1 ∧
      (0 : Byte).toNat + 256 * (4 : Byte).toNat = 1024 ∧ (1 : Byte).toNat + 256 * (4 : Byte).toNat = 1025 ∧
      (receiving (.body 1 2 2 [])).link.rx = .body 1 2 2 [] ∧ ([] : List Byte).length + 1 < 2 ∧
      (receiving (.body 1 2 2 [9])).link.rx = .body 1 2 2 [9] ∧ ([9] : List Byte).length + 1 = 2 ∧
      (receiving (.body 1 2 2 [])).link.rx ≠ .hunt :=
  ⟨rfl, rfl, rfl, rfl, rfl, rfl, rfl, rfl, by decide, rfl, rfl, by decide⟩

/-- IDENTIFY, STATUS, FETCH, SET_MASK, ACCEPT_INPUT, READ_COUNTERS and the others whose only hypothesis is
that no request is handled, and a body of the catalogue's length. -/
theorem witness_IdentifyReportsThePart : State.reset.Free := rfl
theorem witness_StatusReportsAndClearsTheFlags : fullQueue.Free := rfl
theorem witness_FetchRemovesAndSetMaskWrites : fullQueue.Free ∧ ([4, 1] : List Byte).length = 2 := ⟨rfl, rfl⟩
theorem witness_AcceptInputReleasesTheBreakpoint :
    (acquiring .awaitAccept .c11 16666667).Free := rfl
theorem witness_SetFreePeriodWritesThePeriods : running.Free ∧ ([0, 0, 0, 0] : List Byte).length = 4 := ⟨rfl, rfl⟩
theorem witness_SetMasterWritesMuteAndStep :
    running.Free ∧ ([3, 2, 0, 0] : List Byte).length = 4 ∧ (byteAt [3, 2, 0, 0] 0).testBit 0 = true ∧
      1 < byteAt [3, 2, 0, 0] 1 := by unfold State.Free; decide
theorem witness_SlipRequestsReportAndSet : running.Free ∧ ([0, 0] : List Byte).length = 2 := ⟨rfl, rfl⟩

theorem witness_StandbyRequestStartsDimming :
    running.Free ∧ running.mode.mode = HomeMode.run.toMode ∧ (inMode .setup).mode.mode = HomeMode.setup.toMode ∧
      asleep.Free ∧ asleep.mode.mode = .standby ∧ State.reset.Free ∧ State.reset.mode.mode = .startup :=
  ⟨rfl, rfl, rfl, rfl, rfl, rfl, rfl⟩

theorem witness_WakeReturnsToTheRememberedMode :
    running.mode.mode = .run ∧ (inMode .dimming).mode.mode = .dimming ∧ asleep.mode.mode = .standby ∧
      asleep.acq.state = .noSignal ∧ asleep.acq.frame = none ∧ asleep.Free ∧ asleep.mode.mode ≠ .startup ∧
      (∃ t, exec (.wakeN env) (asleep.handlingOf ⟨0x09, 1, []⟩) = .next t) ∧
      State.reset.Free ∧ State.reset.mode.mode = .startup :=
  ⟨rfl, rfl, rfl, rfl, rfl, rfl, by decide, ⟨_, rfl⟩, rfl, rfl⟩

/-- A cadence pair 6 is out of its list; hold 10000 is not clamped, 10001 is; a measured format in each
state that acts on it; target periods at both ends of the range and one past each. -/
theorem witness_SetInputControlSetsAndActs :
    let s := acquiring .locked .c52 16683333
    let a := acquiring .awaitAccept .c11 16666667
    let w := { a with acq := { a.acq with controls := ⟨true, .four, .c11, 2000⟩ } }
    s.Free ∧ s.mode.mode ≠ .startup ∧ ([4, 0, 0, 6, 0, 0] : List Byte).length = 6 ∧
      (¬ ∃ new, Spec.inputControls [4, 0, 0, 6, 0, 0] s.acq.controls new) ∧
      Spec.inputControls [0x0C, 0, 0, 0, 0x10, 0x27] s.acq.controls ⟨false, .four, .c11, 10000⟩ ∧
      Spec.inputControls [0x0C, 0, 0, 0, 0x11, 0x27] s.acq.controls ⟨false, .four, .c11, 10000⟩ ∧
      s.acq.measured = some ⟨1920, 1080, 41708333⟩ ∧ Cadence.c11 ≠ s.acq.controls.cadence ∧
      running.acq.state = .noSignal ∧ w.Free ∧ w.acq.state = .awaitAccept ∧
      w.acq.controls.breakpoint = true ∧ w.acq.measured = some ⟨1920, 1080, 41708333⟩ ∧
      Spec.inputControls [1, 0, 0, 0, 0, 0] w.acq.controls ⟨false, .four, .c11, 2000⟩ ∧
      Spec.inputControls [1, 1, 0, 0, 0, 0] w.acq.controls ⟨true, .four, .c11, 2000⟩ ∧
      Spec.periodFits (Spec.targetPeriod ⟨1920, 1080, 8000000⟩ .c11) ∧
      ¬ Spec.periodFits (Spec.targetPeriod ⟨1920, 1080, 7999999⟩ .c11) ∧
      Spec.periodFits (Spec.targetPeriod ⟨1920, 1080, 42000000⟩ .c11) ∧
      ¬ Spec.periodFits (Spec.targetPeriod ⟨1920, 1080, 42000001⟩ .c11) := by
  refine ⟨rfl, by decide, rfl, ?_, by unfold Spec.inputControls; decide, by unfold Spec.inputControls; decide,
    rfl, by decide, rfl, rfl, rfl, rfl, rfl, by unfold Spec.inputControls; decide,
    by unfold Spec.inputControls; decide, by unfold Spec.periodFits; decide, by unfold Spec.periodFits; decide,
    by unfold Spec.periodFits; decide, by unfold Spec.periodFits; decide⟩
  rintro ⟨new, -, -, h, -⟩
  revert h
  generalize new.cadence = c
  cases c <;> decide

theorem witness_ChannelRequestsChangeTheState :
    (losing .refill).Free ∧ (losing .refill).mode.mode ≠ .startup ∧ (losing .refill).TargetFollows ∧
      3 < (4 : Byte).toNat ∧ (3 : Byte).toNat = (3 : Output).val :=
  ⟨rfl, by decide, by unfold State.TargetFollows; decide +kernel, by decide, rfl⟩

/-- Path mode 4 is out of its list; loss confirm 16 and settle 0 are clamped. -/
theorem witness_SetOutputControlWritesControlsOnly :
    running.Free ∧ running.mode.mode ≠ .startup ∧
      byteAt [3, 0x40, 0, 0, 0, 0, 0, 0, 0, 0, 0, 0, 4, 0, 0, 0] 0 = (3 : Output).val ∧
      (¬ ∃ new, Spec.outputControls [3, 0x40, 0, 0, 0, 0, 0, 0, 0, 0, 0, 0, 4, 0, 0, 0]
        (running.chans.get 3).controls new) ∧
      Spec.outputControls [3, 3, 0, 16, 0, 0, 0, 0, 0, 0, 0, 0, 0, 0, 0, 0] (running.chans.get 3).controls
        { resetControls with lossConfirm := 15, settle := 1 } ∧ 3 < byteAt [4] 0 := by
  refine ⟨rfl, by decide, rfl, ?_, by unfold Spec.outputControls; decide, by decide⟩
  rintro ⟨new, -, -, -, -, -, -, h, -⟩
  revert h
  generalize new.path = p
  cases p <;> decide

theorem witness_EditsAreRefusedUnlessEditable :
    (Instr.commit 1 []).frame? = some ⟨0x38, 1, []⟩ ∧ (withPend .armed running).Free ∧
      (withPend .armed running).mode.mode ≠ .startup ∧
      (0x38 : Byte).toNat ∈ [0x30, 0x31, 0x32, 0x34, 0x35, 0x36, 0x38, 0x3A] ∧
      catalogueFits (0x38 : Byte).toNat [] = true ∧ (withPend .armed running).banks.pendState = .armed ∧
      (withPend .syncing running).banks.pendState = .syncing :=
  ⟨rfl, rfl, by decide, by decide, by decide, rfl, rfl⟩

theorem witness_WriteSceneWritesTheMarkedFields :
    running.Free ∧ ([0x1F, 0, 0, 0, 0, 0, 0, 0, 0, 5] : List Byte).length = 10 := ⟨rfl, rfl⟩

/-- Records 1199 (in range) and 1200 (out), counts 1, 64 and 65. -/
theorem witness_WriteLayoutAndMeshWriteOneOutput :
    running.Free ∧ ([3, 128] : List Byte).length = 2 ∧ byteAt [3, 128] 0 = (3 : Output).val ∧
      byteAt [3, 128] 1 ∈ [16, 32, 64, 128] ∧ 3 < byteAt [4, 16] 0 ∧ byteAt [3, 17] 1 ∉ [16, 32, 64, 128] ∧
      ([0, 0xAF, 4, 1] ++ List.replicate 10 (0 : Byte)).length =
        4 + 10 * byteAt ([0, 0xAF, 4, 1] ++ List.replicate 10 (0 : Byte)) 3 ∧
      u16At [0, 0xAF, 4, 1] 1 + byteAt [0, 0xAF, 4, 1] 3 = 1200 ∧
      1200 < u16At [0, 0xB0, 4, 1] 1 + byteAt [0, 0xB0, 4, 1] 3 ∧
      u16At [0, 0x70, 4, 64] 1 + byteAt [0, 0x70, 4, 64] 3 = 1200 ∧ 64 < byteAt [0, 0, 0, 65] 3 ∧
      (running.pendingBank.scene.outs.get 0).points.length = 1200 := by
  unfold State.Free; decide +kernel

/-- Entry 256 (in range) and 257 (out), selectors 0, 4 and 5. -/
theorem witness_WriteTableWritesTheEntries :
    running.Free ∧ ([4, 0, 1, 1, 0, 0] : List Byte).length = 4 + 2 * byteAt [4, 0, 1, 1, 0, 0] 3 ∧
      u16At [4, 0, 1, 1, 0, 0] 1 + byteAt [4, 0, 1, 1, 0, 0] 3 = 257 ∧
      byteAt [4, 0, 1, 1, 0, 0] 0 = (3 : Output).val + 1 ∧ byteAt [0, 0, 1, 1, 0, 0] 0 = 0 ∧
      4 < byteAt [5] 0 ∧ 257 < u16At [0, 1, 1, 1] 1 + byteAt [0, 1, 1, 1] 3 ∧
      running.pendingBank.scene.decode.length = 257 ∧
      (running.pendingBank.scene.outs.get 3).encode.length = 257 := by
  unfold State.Free; decide +kernel

theorem witness_WriteCoverageAndToneWriteTheRecord :
    running.Free ∧ (3 :: List.replicate 16 (0 : Byte)).length = 17 ∧
      byteAt (3 :: List.replicate 16 (0 : Byte)) 0 = (3 : Output).val ∧
      3 < byteAt (4 :: List.replicate 16 (0 : Byte)) 0 ∧ (3 :: List.replicate 12 (0 : Byte)).length = 13 ∧
      byteAt (3 :: List.replicate 12 (0 : Byte)) 0 = (3 : Output).val := by
  unfold State.Free; decide

theorem witness_ReadMeshReturnsTheRecords :
    running.Free ∧ ([1, 3, 0xAF, 4, 1] : List Byte).length = 5 ∧ byteAt [1, 3, 0xAF, 4, 1] 0 = 1 ∧
      byteAt [1, 3, 0xAF, 4, 1] 1 = (3 : Output).val ∧
      u16At [1, 3, 0xAF, 4, 1] 2 + byteAt [1, 3, 0xAF, 4, 1] 4 = 1200 ∧ 1 < byteAt [2, 0, 0, 0, 1] 0 := by
  unfold State.Free; decide

/-- A bank at rest, an ARMED one, one being copied, and one being loaded. -/
theorem witness_ReadsFindOldOrNewValues :
    let s := withPend .loading (withCtl (.loading 1 true) (stored running))
    running.banks.pendState = .editable ∧ (withPend .armed running).banks.pendState = .armed ∧
      (withPend .syncing running).banks.pendState = .syncing ∧
      s.banks.pendState = .loading ∧ s.profiles.ctl = .loading 1 true ∧
      (s.profiles.area 1).profile? = some profile := ⟨rfl, rfl, rfl, rfl, rfl, rfl⟩

/-- Each of the four items, and a table slice that ends at entry 257. -/
theorem witness_ReadBankInfoReturnsOneItem :
    running.Free ∧ catalogueFits 0x3B [1, 0] = true ∧ catalogueFits 0x3B [1, 1, 3] = true ∧
      catalogueFits 0x3B [1, 2, 3] = true ∧ catalogueFits 0x3B [0, 3, 4, 0, 1, 1] = true ∧
      u16At [0, 3, 4, 0, 1, 1] 3 + byteAt [0, 3, 4, 0, 1, 1] 5 = 257 ∧
      byteAt [0, 3, 4, 0, 1, 1] 2 = (3 : Output).val + 1 ∧ catalogueFits 0x3B [1, 4] = true ∧
      3 < byteAt [1, 4] 1 := by
  unfold State.Free; decide

/-- The default scene passes; one with a coverage past the canvas fails. -/
def badScene : Scene :=
  { defaultScene with outs := { defaultScene.outs with
    o1 := { defaultOutput with coverage := ⟨0, 1921, 0, 1080, 0, 0, 0, 0⟩ } } }

theorem badScene_fails : Spec.Fails badScene (b8 1 ++ b8 1 ++ b16 0) :=
  Spec.Fails.bounds (sc := badScene) 1 (by decide +kernel) (by unfold Spec.outOfBounds; decide +kernel)
    (by unfold Spec.outOfBounds; decide +kernel)

theorem witness_CommitChecksAndArms :
    running.Free ∧ (∃ k : Output, ¬ Spec.outOfBounds running.pendingBank.scene k) ∧
      running.pendingBank.scene.valid = true ∧
      Spec.Fails (running.setPendingBank ⟨badScene, Four.all clearFlags⟩).pendingBank.scene
        (b8 1 ++ b8 1 ++ b16 0) :=
  ⟨rfl, ⟨0, by unfold Spec.outOfBounds; decide +kernel⟩, default_valid, badScene_fails⟩

theorem default_falls_nowhere : ∀ i < 257, ¬ Spec.falls defaultScene i := by
  unfold Spec.falls; decide +kernel

theorem witness_CommitChecksAndArms_passes : Spec.Passes running.pendingBank.scene := by
  have h : running.pendingBank.scene = defaultScene := rfl
  rw [h]
  refine fun k => ⟨by revert k; decide +kernel, by unfold Spec.outOfBounds; revert k; decide +kernel,
    by unfold Spec.feathersTooWide; revert k; decide +kernel, fun i hi => ?_⟩
  have hl : defaultScene.decode.length = 257 := by decide +kernel
  exact default_falls_nowhere i (hl ▸ hi.2.1) hi

/-- The first cell and the last one of the default layout. -/
theorem witness_DerivedFlagsMarkLongEdges :
    0 + 1 < defaultScene.cols 0 ∧ 0 + 1 < defaultScene.rows 0 ∧ 29 + 1 < defaultScene.cols 3 ∧
      16 + 1 < defaultScene.rows 3 ∧ 16 * (defaultScene.cols 3 - 1) + 29 < 1200 := by decide +kernel

theorem witness_DisarmRevertAndCopyBack :
    running.Free ∧ (withPend .syncing running).banks.pendState = .syncing ∧
      running.banks.pendState ≠ .syncing := ⟨rfl, rfl, by decide⟩

/-- The last pixel inside the raster and the first outside it. -/
theorem witness_ProbeRequestsFollowTheProbeState :
    asleep.Free ∧ running.Free ∧ ([3, 0x7F, 7, 0x37, 4] : List Byte).length = 5 ∧
      asleep.mode.mode = .standby ∧ running.mode.mode ≠ .standby ∧
      byteAt [3, 0x7F, 7, 0x37, 4] 0 = (3 : Output).val ∧
      u16At [3, 0x7F, 7, 0x37, 4] 1 < running.active.scene.rasterW ∧
      u16At [3, 0x7F, 7, 0x37, 4] 3 < running.active.scene.rasterH ∧
      running.active.scene.rasterW ≤ u16At [3, 0x80, 7, 0, 0] 1 := by
  unfold State.Free; decide +kernel

theorem witness_ProfileLoadAndEraseAreCheckedInOrder :
    (stored running).Free ∧ 7 < (8 : Byte).toNat ∧ 1 < (2 : Byte).toNat ∧
      (7 : Byte).toNat = (7 : ProfileNo).val ∧ (1 : Byte).toNat ≤ 1 := by
  unfold State.Free; decide

/-- Labels of 16 and 17 characters, at both ends of the printable range and outside it. -/
theorem witness_ProfileStoreCapturesTheScene :
    running.Free ∧ (List.replicate 16 (0x7E : Byte)).length = (16 : Byte).toNat ∧
      (7 : Byte).toNat = (7 : ProfileNo).val ∧
      (∀ c ∈ (0x20 : Byte) :: List.replicate 15 0x7E, 0x20 ≤ c.toNat ∧ c.toNat ≤ 0x7E) ∧
      16 < (List.replicate 17 (0x41 : Byte)).length ∧ (0x7F : Byte).toNat > 0x7E := by
  unfold State.Free; decide

/-- BUSY behind a store; numbers 8 and FFh; an EMPTY, an UNSOUND and a SOUND profile; a directory with a
newer copy, and one with none. -/
theorem witness_ProfileSetBootBeginsADirectoryWrite :
    let b := withCtl (.storing 1 profile false) (stored running)
    let u := (stored running).onProfiles (ProfileStore.setHeld 1 (some (false, profile.header)))
    b.Free ∧ b.mode.mode ≠ .startup ∧ b.profiles.ctl ≠ .idle ∧ b.profiles.ctl ≠ .scanning ∧
      (stored running).Free ∧ (stored running).mode.mode ≠ .startup ∧ (stored running).profiles.ctl = .idle ∧
      7 < (8 : Byte).toNat ∧ (8 : Byte) ≠ 0xFF ∧ (2 : Byte).toNat = (2 : ProfileNo).val ∧
      ((stored running).profiles.entry 2).held = none ∧ (1 : Byte).toNat = (1 : ProfileNo).val ∧
      ((stored running).profiles.entry 1).held = some (true, profile.header) ∧ u.Free ∧
      (u.profiles.entry 1).held = some (false, profile.header) ∧
      (stored running).profiles.newer = some (false, ⟨5, some 1, (List.replicate 8 0).set 1 17⟩) ∧
      running.profiles.newer = none := by
  unfold State.Free; decide +kernel

theorem witness_ProfileListReportsTheDirectory : (stored running).Free := rfl

theorem witness_LoadCompletionFillsThePendingBank :
    (withCtl (.loading 1 true) (stored running)).profiles.ctl = .loading 1 true ∧
      ((withCtl (.loading 1 true) (stored running)).profiles.area 1).profile? = some profile ∧
      (withCtl (.loading 1 true) (stored running)).profiles.entries.length = 8 ∧
      ((withCtl (.loading 1 true) (stored running)).profiles.entry 1).held = some (true, profile.header) :=
  ⟨rfl, rfl, rfl, rfl⟩

/-- Each operation, before and after its directory write begins; a directory with a newer copy, and one
with none; the boot choice erased and another; a count that saturates. -/
theorem witness_FlashOperationsUpdateTheDirectory :
    let full := (stored running).onProfiles (ProfileStore.setEntry 1 ⟨some (true, profile.header), 255⟩)
    (stored running).profiles.entries.length = 8 ∧ (stored running).profiles.flash.areas.length = 8 ∧
      (withCtl (.storing 1 profile true) (stored running)).profiles.ctl = .storing 1 profile true ∧
      (withCtl (.erasing 1 .blank true) (stored running)).profiles.ctl = .erasing 1 .blank true ∧
      (withCtl (.writingDirectory (some 1)) (stored running)).profiles.ctl = .writingDirectory (some 1) ∧
      (withCtl (.storing 1 profile false) (stored running)).profiles.ctl = .storing 1 profile false ∧
      (withCtl (.erasing 1 .blank false) (stored running)).profiles.ctl = .erasing 1 .blank false ∧
      (stored running).profiles.newer = some (false, ⟨5, some 1, (List.replicate 8 0).set 1 17⟩) ∧
      running.profiles.newer = none ∧ (stored running).profiles.boot = some 1 ∧
      running.profiles.boot ≠ some 1 ∧ (full.profiles.entry 1).writeCount = 255 ∧
      full.profiles.entries.length = 8 ∧ (stored running).profiles.ctl = .idle := by decide +kernel

/-- The scan before area 0 with a directory to read, and before area 7 with a cut store there. -/
def scanning (areas : List Area) (n : Nat) : State :=
  { State.reset with profiles := { resetProfiles
      ⟨areas, .held ⟨5, some 1, List.replicate 8 0⟩, .held ⟨4, none, List.replicate 8 0⟩⟩ with examined := n } }

theorem witness_ScanReadsTheFlash :
    (scanning (List.replicate 8 .blank) 0).profiles.ctl = .scanning ∧
      (scanning (List.replicate 8 .blank) 0).profiles.entries.length = 8 ∧
      (scanning (List.replicate 8 .blank) 0).profiles.flash.areas.length = 8 ∧
      (scanning (List.replicate 8 .blank) 0).profiles.examined = (0 : ProfileNo).val ∧
      (scanning (List.replicate 8 .blank) 0).profiles.area 0 = .blank ∧
      (scanning ((List.replicate 8 .blank).set 7 (.torn profile)) 7).profiles.examined = (7 : ProfileNo).val ∧
      (scanning ((List.replicate 8 .blank).set 7 (.torn profile)) 7).profiles.area 7 = .torn profile ∧
      (scanning ((List.replicate 8 .blank).set 7 (.held profile)) 7).profiles.area 7 = .held profile ∧
      (scanning ((List.replicate 8 .blank).set 7 (.blanking profile)) 7).profiles.area 7 =
        .blanking profile ∧
      (scanning ((List.replicate 8 .blank).set 7 (.unblanked profile)) 7).profiles.area 7 =
        .unblanked profile ∧
      (scanning (List.replicate 8 .blank) 0).profiles.dirRead = false ∧
      State.reset.profiles.ctl = .scanning ∧ State.reset.profiles.dirRead = false ∧
      State.reset.profiles.examined = 0 ∧ State.reset.profiles.flash.copy0 = .blank ∧
      State.reset.profiles.flash.copy1 = .blank :=
  ⟨rfl, rfl, rfl, rfl, rfl, rfl, rfl, rfl, rfl, rfl, rfl, rfl, rfl, rfl, rfl, rfl⟩

/-- Of generations 5 and 4 copy 0 is newer, of 4 and 5 copy 1; of FFFFFFFFh and 0, the second; with one
copy that does not pass, the other; with two, none. -/
theorem witness_ScanReadsTheFlash_copies :
    let d := fun g => (⟨g, none, []⟩ : Directory)
    Spec.ScanTakes ⟨[], .held (d 5), .held (d 4)⟩ true true (some (d 5)) ∧
      Spec.ScanTakes ⟨[], .held (d 4), .held (d 5)⟩ true true (some (d 5)) ∧
      Spec.ScanTakes ⟨[], .held (d 0xFFFFFFFF), .held (d 0)⟩ true true (some (d 0)) ∧
      Spec.ScanTakes ⟨[], .held (d 5), .torn⟩ true true (some (d 5)) ∧
      Spec.ScanTakes ⟨[], .blank, .held (d 4)⟩ true true (some (d 4)) ∧
      Spec.ScanTakes ⟨[], .held (d 5), .held (d 4)⟩ false true (some (d 4)) ∧
      Spec.ScanTakes ⟨[], .held (d 5), .torn⟩ false true none :=
  ⟨.copy0Newer _ _ rfl rfl rfl rfl (.inl rfl), .copy1Newer _ _ rfl rfl rfl rfl rfl (by decide),
    .copy1Newer _ _ rfl rfl rfl rfl rfl (by decide), .only0 _ rfl rfl (.inr nofun),
    .only1 _ rfl rfl (.inr nofun), .only1 _ rfl rfl (.inl rfl), .neither (.inl rfl) (.inr nofun)⟩

/-- The end of a scan: profile 1 SOUND, UNSOUND, EMPTY or no boot choice. -/
def scanned (held : Option (Bool × Header)) (boot : Option ProfileNo) : State :=
  { State.reset with profiles := { (stored running).profiles with
      ctl := .scanning, boot := boot
      entries := (List.replicate 8 emptyEntry).set 1 ⟨held, 17⟩ } }

/-- Besides the four boot choices: an output to be enabled, a canvas that differs, and room in the queue. -/
theorem witness_ScanCompletionBoots :
    (scanned none none).profiles.ctl = .scanning ∧ (scanned none none).profiles.dirRead = true ∧
      (scanned none none).profiles.examined = 8 ∧ (scanned none none).profiles.boot = none ∧
      ((scanned none (some 1)).profiles.entry 1).held = none ∧
      ((scanned (some (false, profile.header)) (some 1)).profiles.entry 1).held =
        some (false, profile.header) ∧
      ((scanned (some (true, profile.header)) (some 1)).profiles.entry 1).held =
        some (true, profile.header) ∧
      ((scanned (some (true, profile.header)) (some 1)).profiles.area 1).profile? = some profile ∧
      ((scanned (some (true, profile.header)) (some 1)).chans.get 0).state = .disabled ∧
      (profile.outs.get 0).enable = true ∧ (scanned none none).ind.queue.length ≤ 16 :=
  ⟨rfl, rfl, rfl, rfl, rfl, rfl, rfl, rfl, rfl, rfl, by decide⟩

/-- A profile store at rest with profile 1 held, whose newer directory copy is copy 0, and with area 7
EMPTY. -/
theorem witness_ResetDuringAFlashOperation :
    (stored running).profiles.flash.areas.length = 8 ∧
      (stored running).profiles.newer = some (false, ⟨5, some 1, (List.replicate 8 0).set 1 17⟩) ∧
      (stored running).profiles.area 1 = .held profile ∧ (stored running).profiles.area 1 ≠ .blank ∧
      (stored running).profiles.area 7 = .blank := by decide +kernel

theorem witness_InputLossAndTimerExpiries :
    writingG1.acq.state ≠ .noSignal ∧ writingG1.mode.mode ≠ .standby ∧ running.acq.state = .noSignal ∧
      asleep.mode.mode = .standby ∧ beforeF5.acq.acqTimer ≠ none ∧ running.acq.acqTimer = none ∧
      (after writingG1 .inputValidFall).acq.holdTimer ≠ none ∧ running.acq.holdTimer = none := by
  decide +kernel

/-- STANDBY, and INPUT_VALID low with a first frame that raises it; a start exactly 50 ms after the one
before; a window of three that a fourth record fills, and a record one nanosecond past the tolerance of
section 1.9; a cut-short frame. -/
theorem witness_FrameStartOutsideLocked :
    let low := { running with pins := { running.pins with inputValid := false } }
    let m := acquiring .mismatch .c11 16666667
    let f := { m with acq := { m.acq with frame := some ⟨1000, some (2048, 1080), none⟩ } }
    let g := { m with acq := { m.acq with frame := some ⟨1000, none, none⟩ } }
    asleep.mode.mode = .standby ∧ low.pins.inputValid = false ∧ low.mode.mode ≠ .standby ∧
      low.acq.state = .noSignal ∧
      beforeF5.mode.mode ≠ .standby ∧ beforeF5.acq.state = .measuring ∧
      beforeF5.acq.frame = some ⟨1000, some (1920, 1080), none⟩ ∧ 50001000 ≤ 1000 + 50000000 ∧
      Spec.Window beforeF5.acq.window (some ⟨1920, 1080, 41708342⟩)
        (beforeF5.acq.window ++ [⟨1920, 1080, 41708342⟩]) ∧
      Spec.Window beforeF5.acq.window (some ⟨1920, 1080, 41789802⟩) [⟨1920, 1080, 41789802⟩] ∧
      Spec.Window beforeF5.acq.window none [] ∧
      Spec.fits ⟨1920, 1080, 41708340⟩ ⟨1920, 1080, 41708340 + 81461⟩ ∧
      f.mode.mode ≠ .standby ∧ f.acq.state = .mismatch ∧ f.acq.measured = some ⟨1920, 1080, 41708333⟩ ∧
      f.acq.frame = some ⟨1000, some (2048, 1080), none⟩ ∧ g.acq.frame = some ⟨1000, none, none⟩ ∧
      ¬ Spec.fits ⟨1920, 1080, 41708333⟩ ⟨2048, 1080, 41708333⟩ := by
  refine ⟨rfl, rfl, by decide, rfl, by decide, rfl, rfl, by decide,
    .inr ⟨_, rfl, .inr ⟨_, _, rfl, .inl ⟨by unfold Spec.fits; decide +kernel, rfl⟩⟩⟩,
    .inr ⟨_, rfl, .inr ⟨_, _, rfl, .inr ⟨by unfold Spec.fits; decide +kernel, rfl⟩⟩⟩, .inl ⟨rfl, rfl⟩,
    by unfold Spec.fits; decide +kernel, by decide, rfl, rfl, rfl, rfl, by unfold Spec.fits; decide⟩

/-- The buffers of a state in which no frame is being written. -/
theorem buffers_sound (s : State) (hw : s.writing? = none)
    (hs : ∀ b c : BufNo, (s.frames.bufs.get b).Showing → (s.frames.bufs.get c).Showing → b = c)
    (hf : ∀ b : BufNo, ¬ (s.frames.bufs.get b).Filling) : s.BuffersSound where
  oneShowing := hs
  filling := fun b => ⟨fun h => absurd h (hf b), fun ⟨w, h, _⟩ => by rw [hw] at h; cases h⟩
  locked := fun h => by rw [hw] at h; cases h

/-- Buffer 0 may be SHOWING; the others hold no frame that is SHOWING or FILLING. -/
theorem shown_first (n : BitVec 40) (r1 r2 : BufRec) (h1 : ¬ r1.Showing) (h2 : ¬ r2.Showing)
    (b c : BufNo) (hb : ((⟨.showing n 0, r1, r2⟩ : Three BufRec).get b).Showing)
    (hc : ((⟨.showing n 0, r1, r2⟩ : Three BufRec).get c).Showing) : b = c := by
  match b, c with
  | 0, 0 => rfl
  | 1, _ => exact absurd hb h1
  | 2, _ => exact absurd hb h2
  | 0, 1 => exact absurd hc h1
  | 0, 2 => exact absurd hc h2

/-- LOCKED with buffer 0 SHOWING, two COMPLETE buffers and no frame being written. -/
def showing (n m k : BitVec 40) : State :=
  let s := acquiring .locked .c52 16683333
  { s with frames := { s.frames with bufs := ⟨.showing n 0, .complete m 0, .complete k 0⟩, base := some 100 }
           timer := { s.timer with position := 2 }
           master := ⟨4096, 4096, 32, false⟩ }

theorem showing_sound (n m k : BitVec 40) : (showing n m k).BuffersSound :=
  buffers_sound _ rfl (shown_first n _ _ nofun nofun) fun b => match b with
    | 0 => nofun
    | 1 => nofun
    | 2 => nofun

/-- Alignment outstanding in LOCKING, with the buffers of `s`. -/
def aligning (s : State) : State := { s with acq := { s.acq with state := .locking, alignDue := true } }

/-- A torn frame; an alignment point with an EMPTY buffer and one without; a pair with a writer that takes
the oldest buffer; the last good error and the first bad one of section 1.9. -/
theorem witness_FrameStartInLocked :
    let s := acquiring .locked .c52 16683333
    let d := aligning s
    let e := aligning (showing 100 101 102)
    let p := { s with
      acq := { s.acq with sinceCadence := 1, waitStart := some 1042708 }
      frames := { s.frames with bufs := ⟨.showing 100 0, .complete 101 0, .complete 102 0⟩ } }
    s.mode.mode ≠ .standby ∧ writingG1.writing? = some ⟨0, []⟩ ∧
      (∀ f, writingG1.acq.frame = some f → 50000000 ≤ f.start + 50000000) ∧
      (d.writing? = none ∧ d.acq.state = .locking ∧ d.acq.alignDue = true ∧ d.banks.pendState ≠ .armed ∧
        d.mode.mode ≠ .dimming ∧ d.acq.target = some 16683333 ∧ d.BuffersSound ∧
        (∃ c, d.frames.bufs.get c = .empty) ∧ Spec.WriterTakes d.frames.bufs 0) ∧
      (e.writing? = none ∧ e.acq.state = .locking ∧ e.acq.alignDue = true ∧ e.banks.pendState ≠ .armed ∧
        e.mode.mode ≠ .dimming ∧ e.acq.target = some 16683333 ∧ e.BuffersSound ∧
        ¬ ∃ c, e.frames.bufs.get c = .empty) ∧
      p.writing? = none ∧ ¬ (p.acq.state = .locking ∧ p.acq.alignDue = true) ∧
      Spec.WriterTakes p.frames.bufs 1 ∧ p.acq.controls.cadence.d ≤ p.acq.sinceCadence + 1 ∧
      p.acq.target = some 16683333 ∧ p.acq.waitStart = some 1042708 ∧ p.acq.waitCadence = none ∧
      (1042708 : Nat) ≤ 16683333 / 16 ∧ 16683333 / 16 < 1042709 ∧ s.acq.waitStart = none ∧
      s.acq.sinceCadence + 1 < s.acq.controls.cadence.d := by
  refine ⟨by decide, rfl, ?_, ⟨rfl, rfl, rfl, by decide, by decide, rfl,
      buffers_sound _ rfl ?_ ?_, ⟨0, rfl⟩, .inl ⟨rfl, by decide⟩⟩,
    ⟨rfl, rfl, rfl, by decide, by decide, rfl, { showing_sound 100 101 102 with locked := nofun }, by decide⟩,
    rfl, by decide, .inr ⟨by decide, 101, 0, rfl, ⟨2, 102, 0, by decide, rfl⟩, ?_⟩, by decide, rfl, rfl, rfl,
    by decide, by decide, rfl, by decide⟩
  · intro f h
    cases h
    decide
  · rintro b c ⟨n, v, h⟩
    match b with
    | 0 => cases h
    | 1 => cases h
    | 2 => cases h
  · rintro b ⟨n, v, h⟩
    match b with
    | 0 => cases h
    | 1 => cases h
    | 2 => cases h
  · intro c m w hc h
    match c, hc with
    | 0, _ => cases h
    | 2, _ => cases h; decide

theorem witness_FrameEndCompletesTheBuffer :
    let s := { writingG1 with acq := { writingG1.acq with measured := some ⟨2, 1, 41708333⟩ } }
    let f : InputFrame := ⟨[2], ⟨0, 0, 0⟩, [(1, 0, ⟨750, 1250, 500⟩)]⟩
    s.mode.mode ≠ .standby ∧ s.pins.inputValid = true ∧ s.acq.frame = some ⟨0, none, some ⟨0, []⟩⟩ ∧
      s.acq.measured.map (fun m => (m.width, m.height)) = some (activeSize f) ∧
      s.frames.bufs.get 0 = .filling 7 0 ∧ s.acq.state = .locked ∧
      s.acq.measured.map (fun m => (m.width, m.height)) ≠ some (activeSize ⟨[3], ⟨0, 0, 0⟩, []⟩) ∧
      f.wellFormed = true ∧ (∀ w ∈ f.lines, w ≤ 4096) ∧ 1 < f.lines.getD 0 0 := by
  refine ⟨by decide, rfl, rfl, by decide, rfl, rfl, by decide, by decide, by decide, by decide⟩

/-- A stopped timer; an ARMED bank without a store and with one; a waiting probe; a fade; both ends of a
dimming; a position-0 start that pairs. -/
theorem witness_FrameStartMovesTheTimerTheLevelAndTheBanks :
    let q := acquiring .locked .c11 16666667
    let pq := { q with acq := { q.acq with waitCadence := some 5 } }
    let dim := { inMode .dimming with master := ⟨33, 0, 32, false⟩ }
    let pr := { running with probe := .waiting 3 1919 1079 }
    asleep.timer.running = false ∧ running.timer.running = true ∧
      (withPend .armed running).banks.pendState = .armed ∧
      (withPend .armed running).profiles.ctl = .idle ∧
      (withPend .armed (withCtl (.storing 1 profile true) running)).profiles.ctl = .storing 1 profile true ∧
      (withPend .armed (inMode .setup)).mode.mode = .setup ∧ pr.probe = .waiting 3 1919 1079 ∧
      (losing .refill).TargetFollows ∧ (losing .refill).mode.mode ≠ .dimming ∧
      (losing .refill).banks.pendState ≠ .armed ∧
      (∀ k : Output, ((losing .refill).chans.get k).controls.policy ≠ .allBlack) ∧
      (inMode .dimming).TargetFollows ∧ (inMode .dimming).mode.mode = .dimming ∧
      (inMode .dimming).master.level ≤ (inMode .dimming).master.step ∧
      dim.TargetFollows ∧ dim.mode.mode = .dimming ∧ dim.master.step < dim.master.level ∧
      q.acq.state = .locked ∧ q.acq.alignDue = false ∧ q.mode.mode ≠ .dimming ∧
      q.banks.pendState ≠ .armed ∧ q.acq.target = some 16666667 ∧ pq.acq.waitStart = none ∧
      (after pq (.presentationFrameStart env)).timer.position = 0 := by
  unfold State.TargetFollows
  decide +kernel

/-- Frame 101 is in none of the buffers. -/
theorem missing_101 (b : BufNo) (v : BitVec 16) :
    (showing 100 103 102).frames.bufs.get b ≠ .complete 101 v ∧
      (showing 100 103 102).frames.bufs.get b ≠ .showing 101 v := by
  match b with
  | 0 => exact ⟨nofun, fun h => absurd (BufRec.showing.inj h).1 (by decide)⟩
  | 1 => exact ⟨fun h => absurd (BufRec.complete.inj h).1 (by decide), nofun⟩
  | 2 => exact ⟨fun h => absurd (BufRec.complete.inj h).1 (by decide), nofun⟩

/-- The frame to show: an expected frame that is held, one that is missing, a group without a base, and a
start whose pairing leaves LOCKED; a slip that meets the armed threshold; room in the queue. -/
theorem witness_FrameStartMovesTheTimerTheLevelAndTheBanks_selection :
    let missing := showing 100 103 102
    let free := { missing with frames := { missing.frames with base := none } }
    let start := Instr.presentationFrameStart env
    let s := acquiring .locked .c11 16666667
    let leaving := { s with acq := { s.acq with bad := 1, waitCadence := some 0 } }
    Spec.resizes missing = false ∧ Spec.sleeps missing = false ∧
      missing.TargetFollows ∧
      (after missing start).acq.state = missing.acq.state ∧ missing.acq.state = .locked ∧
      (after missing start).frames.base = some 100 ∧ (after missing start).timer.position = 3 ∧
      (100 + BitVec.ofNat 40 (3 * missing.acq.controls.cadence.d / missing.acq.controls.cadence.n) :
        BitVec 40) = 101 ∧ (showing 100 101 102).frames.bufs.get 1 = .complete 101 0 ∧
      (after missing start).frames.bufs = ⟨.complete 100 0, .showing 103 0, .complete 102 0⟩ ∧
      missing.frames.armed = true ∧ missing.frames.threshold ≤ min 65535 (999 + 1) ∧
      (after free start).frames.base = none ∧ (after leaving start).acq.state ≠ leaving.acq.state ∧
      missing.ind.queue.length ≤ 16 := by unfold State.TargetFollows; decide +kernel

/-- An ARMED bank with a canvas of 2048 by 1080, in an acquisition state with a measured format. -/
def resizing (a : AcqState) (width : Nat) : State :=
  let s := withPend .armed (running.setPendingBank ⟨{ defaultScene with canvasW := 2048 }, Four.all clearFlags⟩)
  State.retarget { s with acq := { resetAcq with
    state := a, measured := some ⟨width, 1080, 16666667⟩, target := some 16666667 } }

/-- A swap that changes the canvas size, in each acquisition state, the format fitting the new canvas or
not. -/
theorem witness_FrameStartMovesTheTimerTheLevelAndTheBanks_resize :
    (∀ a ∈ [AcqState.noSignal, .measuring, .unsupported, .mismatch, .awaitAccept, .locking, .locked],
      (resizing a 1920).acq.state = a ∧ (resizing a 1920).timer.running = true ∧
      (resizing a 1920).acq.measured = some ⟨1920, 1080, 16666667⟩ ∧
      (resizing a 1920).master.target = (resizing a 1920).targetOf ∧
      Spec.resizes (resizing a 1920) = true ∧ Spec.sleeps (resizing a 1920) = false) ∧
    (after (resizing .awaitAccept 1920) (.presentationFrameStart env)).active.scene.canvasW = 2048 ∧
    (after (resizing .mismatch 2048) (.presentationFrameStart env)).acq.state = .locking ∧
    (after (resizing .mismatch 1920) (.presentationFrameStart env)).acq.state = .mismatch ∧
    (after (resizing .awaitAccept 2048) (.presentationFrameStart env)).acq.state = .awaitAccept ∧
    (after (resizing .locked 1920) (.presentationFrameStart env)).acq.state = .mismatch ∧
    (resizing .locked 1920).ind.queue.length ≤ 16 ∧
    (resizing .locked 1920).ind.mask.toNat.testBit 0 = false := by decide +kernel

/-- A start in RUN, in SETUP with and without a swap, in a dimming that goes on and in one that ends. -/
theorem witness_FrameStartWorksTheChannels :
    let dim := { inMode .dimming with master := ⟨33, 0, 32, false⟩ }
    (losing .refill).timer.running = true ∧ (losing .refill).mode.mode = .run ∧
      ((losing .refill).chans.get 1).controls.InRange ∧ Spec.sleeps (losing .refill) = false ∧
      (inMode .setup).mode.mode = .setup ∧ Spec.swaps (inMode .setup) = false ∧
      Spec.swaps (withPend .armed (inMode .setup)) = true ∧ dim.timer.running = true ∧
      dim.mode.mode = .dimming ∧ dim.TargetFollows ∧ Spec.sleeps dim = false ∧
      (inMode .dimming).TargetFollows ∧ Spec.sleeps (inMode .dimming) = true ∧
      ((inMode .dimming).chans.get 3).controls.InRange ∧ ((inMode .dimming).chans.get 3).Sound ∧
      (losing .refill).ind.queue.length ≤ 16 :=
  ⟨rfl, rfl, reset_controls_inRange, by decide +kernel, rfl, by decide +kernel, by decide +kernel, rfl, rfl,
    by unfold State.TargetFollows; decide +kernel, by decide +kernel,
    by unfold State.TargetFollows; decide +kernel, by decide +kernel, reset_controls_inRange,
    by constructor <;> decide +kernel, by decide⟩

/-- Two outputs that map a pixel each to the same canvas position. -/
theorem witness_NormalizedWeightsSumToOne :
    (∀ k : Output, (Four.mk 4096 2048 0 0).get k ≤ 4096) ∧
      (∀ k : Output, ((store56 false).stages none ⟨4096, 2048, 0, 0⟩ 4096 .flatWarp k 1075 527).x =
          ((store56 false).stages none ⟨4096, 2048, 0, 0⟩ 4096 .flatWarp 0 1075 527).x ∧
        ((store56 false).stages none ⟨4096, 2048, 0, 0⟩ 4096 .flatWarp k 1075 527).y =
          ((store56 false).stages none ⟨4096, 2048, 0, 0⟩ 4096 .flatWarp 0 1075 527).y) ∧
      0 < ((store56 false).stages none ⟨4096, 2048, 0, 0⟩ 4096 .flatWarp 0 1075 527).sum := by decide +kernel

/-- A scene in range and its last pixel; a state with a picture to show, and the pixel past the raster. -/
theorem witness_NormalizedWeightsSumToOne_stages :
    (State.reset.readBank false).scene.InRange ∧ 1919 < (State.reset.readBank false).scene.rasterW ∧
      1079 < (State.reset.readBank false).scene.rasterH ∧ (showing 100 101 102).BuffersSound ∧
      (showing 100 101 102).frames.bufs.get 0 = .showing 100 0 ∧
      (showing 100 101 102).active.scene.rasterW ≤ 1920 ∧
      1919 < (showing 100 101 102).active.scene.rasterW ∧ 1079 < (showing 100 101 102).active.scene.rasterH :=
  ⟨default_inRange, by decide, by decide, showing_sound _ _ _, rfl, by decide, by decide, by decide⟩

end Sys2Proof.Tests
end

section
/-! PROOFS. Chapter 1, ACCEPT_INPUT: the entry to LOCKING from an unlocked state (R11, R36), and the
request that asks for it (R19). -/

namespace Sys2Proof.Machine

/-- R15: only OFF leaves the acquisition timer stopped. -/
theorem AcqLimit.start_eq (l : AcqLimit) : l.start = if l = .off then none else some l := by
  cases l <;> rfl

/-- R11, R36, R2: the entry to LOCKING from an unlocked state, where R3 has nothing to do: the registers
of LOCKING, the presentation timer in FOLLOW, and INPUT_STATE with the measured format. -/
theorem State.moveTo_locking_of_unlocked (s : State) (window : List FrameRecord)
    (h : s.acq.state.isLocked = false) :
    s.moveTo .locking window = { s with
      acq := s.acq.enter .locking window
      timer := { s.timer with mode := .follow }
      ind := s.ind.posted (.inputState .locking s.acq.format) s.timer.counter } := by
  have hne : AcqState.locking ≠ s.acq.state := fun e => by simp [← e, AcqState.isLocked] at h
  have hformat : (s.acq.enter .locking window).format = s.acq.format := rfl
  simp [State.moveTo, State.post_eq, h, hne, hformat]

/-- ACCEPT_INPUT at the breakpoint, with what LOCKING starts with written out (R19, R11). -/
theorem actAcceptInput_of_awaitAccept (s : State) (h : s.acq.state = .awaitAccept) :
    actAcceptInput s = (State.retarget { s with
      acq := { s.acq with
        state := .locking, good := 0, bad := 0, waitCadence := none, waitStart := none
        alignDue := true, holdTimer := none
        acqTimer := if s.acq.controls.limit = .off then none else some s.acq.controls.limit }
      timer := { s.timer with mode := .follow }
      ind := s.ind.posted (.inputState .locking s.acq.format) s.timer.counter }).answer .ok [] := by
  have hunlocked : s.acq.state.isLocked = false := by rw [h]; rfl
  rw [actAcceptInput, if_pos h, State.moveTo_locking_of_unlocked s [] hunlocked]
  simp only [Acquisition.enter, AcqLimit.start_eq]

/-- ACCEPT_INPUT away from the breakpoint (R19). -/
theorem actAcceptInput_of_ne_awaitAccept (s : State) (h : s.acq.state ≠ .awaitAccept) :
    actAcceptInput s = s.refuse .wrongState :=
  if_neg h

/-- Settles O27: outside STARTUP the link passes the request to its rule, which the acquisition state
decides; the reply touches the link only. -/
theorem acceptInputReleasesTheBreakpoint : Obligations.AcceptInputReleasesTheBreakpoint := by
  intro s tag hfree
  have hpassed : exec (.acceptInput tag []) s =
      .next (s.unlessStarting ⟨0x11, tag, []⟩ (actAcceptInput (s.handlingOf ⟨0x11, tag, []⟩))) :=
    congrArg Host.Outcome.next (State.submit_request s _ _ actAcceptInput hfree rfl)
  rw [hpassed]
  by_cases hawait : s.acq.state = .awaitAccept
  · rw [if_pos hawait, actAcceptInput_of_awaitAccept (s.handlingOf ⟨0x11, tag, []⟩) hawait]
    rfl
  · rw [if_neg hawait, actAcceptInput_of_ne_awaitAccept (s.handlingOf ⟨0x11, tag, []⟩) hawait]
    rfl

end Sys2Proof.Machine
end

section
/-! PROOFS. Chapter 2, the slip requests: READ_COUNTERS (R32) and SET_SLIP_THRESHOLD (R33). -/

namespace Sys2Proof.Machine

/-- R176: a 16-bit field carries nothing above FFFFh. -/
theorem u16At_le (body : List Byte) (i : Nat) : u16At body i ≤ 65535 := by
  have hlow : byteAt body i < 256 := BitVec.isLt _
  have hhigh : byteAt body (i + 1) < 256 := BitVec.isLt _
  unfold u16At
  omega

/-- A value within its upper limit, clamped to 1 or more, moves only from 0. -/
theorem clamp_one_of_le {hi v : Nat} (h : v ≤ hi) : clamp 1 hi v = if v = 0 then 1 else v := by
  simp [clamp, Nat.not_lt.2 h]

/-- The status that goes with `clamp_one_of_le`. -/
theorem okOr_clamps_one_of_le {hi v : Nat} (h : v ≤ hi) :
    okOr (clamps 1 hi v) = if v = 0 then .clamped else .ok := by
  simp [okOr, clamps, Nat.not_lt.2 h]

/-- R176: the byte of an on/off field. -/
theorem b8_boolCode (b : Bool) : b8 (boolCode b) = if b then [1] else [0] := by
  cases b <;> rfl

/-- The reply of READ_COUNTERS (R32), its armed byte written out. -/
theorem State.counterReport_eq (s : State) :
    s.counterReport = b16 s.frames.slips ++ b16 s.frames.threshold ++
      (if s.frames.armed then [1] else [0]) ++ b40 s.frames.counter.toNat ++ b32 s.timer.counter.toNat := by
  rw [State.counterReport, b8_boolCode]

/-- READ_COUNTERS taken: the report is of the counters as held before the restart (R32). -/
theorem actReadCounters_handlingOf (s : State) (f : Frame) :
    actReadCounters (s.handlingOf f) =
      ({ s with frames := { s.frames with slips := 0, armed := true } } : State).replied f .ok
        (b16 s.frames.slips ++ b16 s.frames.threshold ++ (if s.frames.armed then [1] else [0]) ++
          b40 s.frames.counter.toNat ++ b32 s.timer.counter.toNat) := by
  have hreport : (s.handlingOf f).counterReport = s.counterReport := rfl
  rw [actReadCounters, hreport, State.counterReport_eq]
  exact State.answer_replied { s with frames := { s.frames with slips := 0, armed := true } } f _ _

/-- SET_SLIP_THRESHOLD taken: of the 16-bit values only 0 is outside 1 to 65535 (R33). -/
theorem actSetSlipThreshold_handlingOf (s : State) (f : Frame) (body : List Byte) :
    actSetSlipThreshold body (s.handlingOf f) =
      ({ s with frames := { s.frames with
          threshold := if u16At body 0 = 0 then 1 else u16At body 0 } } : State).replied f
        (if u16At body 0 = 0 then .clamped else .ok) (b16 s.frames.threshold) := by
  have hword : u16At body 0 ≤ 65535 := u16At_le body 0
  rw [actSetSlipThreshold, clamp_one_of_le hword, okOr_clamps_one_of_le hword]
  exact State.answer_replied { s with frames := { s.frames with
    threshold := if u16At body 0 = 0 then 1 else u16At body 0 } } f _ _

/-- Settles O30: the link passes a request of the catalogue's length to its rule outside STARTUP, and each
of the two rules rewrites the slip registers of `frames` and replies. -/
theorem slipRequestsReportAndSet : Obligations.SlipRequestsReportAndSet := by
  intro s tag body hfree hlength
  constructor
  · have hpassed : exec (.readCounters tag []) s = .next (s.unlessStarting ⟨0x1A, tag, []⟩
        (actReadCounters (s.handlingOf ⟨0x1A, tag, []⟩))) :=
      congrArg Host.Outcome.next (State.submit_request s _ _ actReadCounters hfree rfl)
    rw [hpassed, actReadCounters_handlingOf]
  · have hpassed : exec (.setSlipThreshold tag body) s = .next (s.unlessStarting ⟨0x1B, tag, body⟩
        (actSetSlipThreshold body (s.handlingOf ⟨0x1B, tag, body⟩))) :=
      congrArg Host.Outcome.next
        (State.submit_request s _ _ (actSetSlipThreshold body) hfree (decide_eq_true hlength))
    rw [hpassed, actSetSlipThreshold_handlingOf]

end Sys2Proof.Machine
end

section
/-! PROOFS. Chapter 5, the probe requests: PROBE in its order of refusals (R96) and PROBE_READ by the
probe state (R101). -/

namespace Sys2Proof.Machine

/-- The outputs 0 to 3 are read by their numbers (R96, step 3). -/
theorem output?_val (k : Output) : output? k.val = some k :=
  dif_pos k.isLt

/-- No output has a number past 3 (R96, step 3). -/
theorem output?_eq_none {v : Nat} (h : 3 < v) : output? v = none :=
  dif_neg (Nat.not_lt.2 h)

theorem State.insideRaster_iff (u v : Nat) (s : State) :
    s.insideRaster u v = true ↔ u < s.active.scene.rasterW ∧ v < s.active.scene.rasterH := by
  simp [State.insideRaster]

/-- PROBE in STANDBY (R96, step 2). -/
theorem actProbe_of_standby (body : List Byte) (s : State) (h : s.mode.mode = .standby) :
    actProbe body s = s.refuse .wrongState :=
  if_pos h

/-- PROBE of an output past 3 (R96, step 3). -/
theorem actProbe_of_no_output (body : List Byte) (s : State) (hmode : s.mode.mode ≠ .standby)
    (h : output? (byteAt body 0) = none) : actProbe body s = s.refuse .badArgument := by
  simp [actProbe, hmode, h]

/-- PROBE of a pixel outside the active raster (R96, step 4), whatever its output. -/
theorem actProbe_of_outside (body : List Byte) (s : State) (hmode : s.mode.mode ≠ .standby)
    (h : s.insideRaster (u16At body 1) (u16At body 3) = false) :
    actProbe body s = s.refuse .badArgument := by
  cases hout : output? (byteAt body 0) with
  | none => exact actProbe_of_no_output body s hmode hout
  | some k => simp [actProbe, hmode, hout, h]

/-- PROBE of a pixel of the raster goes by the probe state alone (R96, steps 5 and 6). -/
theorem actProbe_of_inside (body : List Byte) (s : State) (k : Output) (hmode : s.mode.mode ≠ .standby)
    (hout : output? (byteAt body 0) = some k)
    (hin : s.insideRaster (u16At body 1) (u16At body 3) = true) :
    ((∃ k' u v, s.probe = .waiting k' u v) → actProbe body s = s.refuse .busy) ∧
    ((∀ k' u v, s.probe ≠ .waiting k' u v) → actProbe body s =
      ({ s with probe := .waiting k (u16At body 1) (u16At body 3) } : State).answer .ok []) := by
  simp only [actProbe, if_neg hmode, hout, if_pos hin]
  cases s.probe <;> simp

/-- PROBE with an argument out of its range (R96, steps 3 and 4). -/
theorem actProbe_of_badArgument (body : List Byte) (s : State) (hmode : s.mode.mode ≠ .standby)
    (h : 3 < byteAt body 0 ∨ s.active.scene.rasterW ≤ u16At body 1 ∨
      s.active.scene.rasterH ≤ u16At body 3) : actProbe body s = s.refuse .badArgument := by
  rcases h with hout | houtside
  · exact actProbe_of_no_output body s hmode (output?_eq_none hout)
  · refine actProbe_of_outside body s hmode (Bool.eq_false_iff.2 fun hin => ?_)
    obtain ⟨hu, hv⟩ := (State.insideRaster_iff _ _ s).1 hin
    omega

/-- The link hands a PROBE of five bytes to its rule (R173, R164). -/
theorem exec_probe_of_free (s : State) (tag : Byte) (body : List Byte) (hfree : s.Free)
    (hlength : body.length = 5) :
    exec (.probe tag body) s = .next (s.unlessStarting ⟨0x40, tag, body⟩
      (actProbe body (s.handlingOf ⟨0x40, tag, body⟩))) :=
  congrArg Host.Outcome.next
    (State.submit_request s _ _ (actProbe body) hfree (decide_eq_true hlength))

/-- The link hands a PROBE_READ without a body to its rule (R173, R164). -/
theorem exec_probeRead_of_free (s : State) (tag : Byte) (hfree : s.Free) :
    exec (.probeRead tag []) s = .next (s.unlessStarting ⟨0x41, tag, []⟩
      (actProbeRead (s.handlingOf ⟨0x41, tag, []⟩))) :=
  congrArg Host.Outcome.next (State.submit_request s _ _ actProbeRead hfree rfl)

/-- Settles O44: the link passes both requests to their rules outside STARTUP. A PROBE's rule is followed
through its refusals in their order; the probe state decides the rest, and decides PROBE_READ. -/
theorem probeRequestsFollowTheProbeState : Obligations.ProbeRequestsFollowTheProbeState := by
  intro s tag body hfree hlength
  rw [exec_probe_of_free s tag body hfree hlength, exec_probeRead_of_free s tag hfree]
  refine ⟨fun hstandby => ?_, fun hmode => ⟨fun hbad => ?_, fun k hk hu hv => ?_⟩, ?_⟩
  · have hstarted : s.mode.mode ≠ .startup := by simp [hstandby]
    rw [State.unlessStarting, if_neg hstarted, actProbe_of_standby body (s.handlingOf _) hstandby]
    rfl
  · rw [actProbe_of_badArgument body (s.handlingOf _) hmode hbad]
    rfl
  · have hout : output? (byteAt body 0) = some k := by rw [hk, output?_val]
    have hin := (State.insideRaster_iff _ _ s).2 ⟨hu, hv⟩
    obtain ⟨hbusy, htaken⟩ :=
      actProbe_of_inside body (s.handlingOf ⟨0x40, tag, body⟩) k hmode hout hin
    cases hprobe : s.probe with
    | waiting k' u v =>
      rw [hbusy ⟨k', u, v, hprobe⟩]
      rfl
    | idle =>
      rw [htaken fun _ _ _ h => by cases hprobe.symm.trans h]
      rfl
    | ready result =>
      rw [htaken fun _ _ _ h => by cases hprobe.symm.trans h]
      rfl
  · have hsame : (s.handlingOf ⟨0x41, tag, []⟩).probe = s.probe := rfl
    rw [actProbeRead, hsame]
    cases s.probe <;> rfl

end Sys2Proof.Machine
end

section
/-! PROOFS. Chapter 6, the channel requests: OUTPUT_ENABLE (R112), OUTPUT_DISABLE (R113) and
OUTPUT_REJOIN (R114), each by the channel's state. -/

namespace Sys2Proof.Machine

/-! ### Changes made by the host (R104, R39) -/

/-- R39: taking the target again where it follows changes nothing. -/
theorem State.TargetFollows.retarget_eq {s : State} (h : s.TargetFollows) : s.retarget = s := by
  rw [State.retarget, ← h]

/-- R104: a change to a state other than LOST sets no capture flag by itself. -/
theorem State.changeChan_of_ne_lost (s : State) (k : Output) (c : Channel) (cause : Cause)
    (h : c.state ≠ .lost) :
    s.changeChan k c cause = { s with
      chans := s.chans.set k { c with goodRun := 0, badRun := 0 }
      ind := s.ind.posted (.outputState k c.state cause) s.timer.counter } := by
  simp only [State.changeChan, if_neg h, State.post_eq]
  rfl

/-- R104, R39: a change of the state and presence of channel `k` by a request; none is into LOST. -/
theorem State.changeChan_host_retarget (s : State) (k : Output) (state : ChanState) (presence : Nat)
    (h : state ≠ .lost) :
    (s.changeChan k { s.chan k with state := state, presence := presence } .host).retarget =
      Spec.hostChange k state presence s := by
  rw [State.changeChan_of_ne_lost _ _ _ _ h]
  rfl

/-- A change by the host does not look at the link, nor touch it. -/
theorem Spec.hostChange_handlingOf (s : State) (f : Frame) (k : Output) (state : ChanState)
    (presence : Nat) :
    Spec.hostChange k state presence (s.handlingOf f) = (Spec.hostChange k state presence s).handlingOf f :=
  rfl

/-! ### OUTPUT_ENABLE and OUTPUT_DISABLE by the channel's state (R112, R113) -/

theorem State.enableChan_of_disabled {s : State} {k : Output} (h : (s.chan k).state = .disabled) :
    (s.enableChan k).retarget = Spec.hostChange k .acquiring (s.chan k).presence s := by
  rw [State.enableChan, h]
  exact s.changeChan_host_retarget k .acquiring _ (by decide)

theorem State.enableChan_of_retiring {s : State} {k : Output} (h : (s.chan k).state = .retiring) :
    (s.enableChan k).retarget = Spec.hostChange k .active (s.chan k).presence s := by
  rw [State.enableChan, h]
  exact s.changeChan_host_retarget k .active _ (by decide)

/-- A channel already enabled stays as it is (R112). -/
theorem State.enableChan_of_enabled {s : State} {k : Output} (hdisabled : (s.chan k).state ≠ .disabled)
    (hretiring : (s.chan k).state ≠ .retiring) : s.enableChan k = s := by
  unfold State.enableChan
  split
  · contradiction
  · contradiction
  · rfl

theorem State.disableChan_of_active {s : State} {k : Output} (h : (s.chan k).state = .active) :
    (s.disableChan k).retarget = Spec.hostChange k .retiring (s.chan k).presence s := by
  rw [State.disableChan, h]
  exact s.changeChan_host_retarget k .retiring _ (by decide)

theorem State.disableChan_of_acquiring {s : State} {k : Output} (h : (s.chan k).state = .acquiring) :
    (s.disableChan k).retarget = Spec.hostChange k .disabled (s.chan k).presence s := by
  rw [State.disableChan, h]
  exact s.changeChan_host_retarget k .disabled _ (by decide)

/-- A channel out of the picture goes to DISABLED at once, its presence with it (R113). -/
theorem State.disableChan_of_out {s : State} {k : Output}
    (h : (s.chan k).state = .lost ∨ (s.chan k).state = .parked) :
    (s.disableChan k).retarget = Spec.hostChange k .disabled 0 s := by
  rcases h with h | h
  all_goals
    rw [State.disableChan, h]
    exact s.changeChan_host_retarget k .disabled 0 (by decide)

/-- A channel already disabled, or on its way there, stays as it is (R113). -/
theorem State.disableChan_of_off {s : State} {k : Output}
    (h : (s.chan k).state = .disabled ∨ (s.chan k).state = .retiring) : s.disableChan k = s := by
  rcases h with h | h <;> rw [State.disableChan, h]

/-! ### The rules of the requests (R111, R114) -/

/-- A channel request for no output (R111). -/
theorem channelRequest_of_no_output (body : List Byte) (act : Output → State → State) (s : State)
    (f : Frame) (h : output? (byteAt body 0) = none) :
    channelRequest body act (s.handlingOf f) = s.replied f .badArgument [] := by
  rw [channelRequest, h]
  rfl

/-- A channel request that leads to `t`: the reply is of the channel in `t` (R111). -/
theorem channelRequest_of_output (body : List Byte) (act : Output → State → State) (s t : State)
    (f : Frame) (k : Output) (hk : output? (byteAt body 0) = some k)
    (hact : (act k (s.handlingOf f)).retarget = t.handlingOf f) :
    channelRequest body act (s.handlingOf f) = Spec.channelReply f k t := by
  simp only [channelRequest, hk, hact]
  rfl

/-- OUTPUT_REJOIN for no output (R111). -/
theorem actOutputRejoin_of_no_output (body : List Byte) (s : State) (f : Frame)
    (h : output? (byteAt body 0) = none) :
    actOutputRejoin body (s.handlingOf f) = s.replied f .badArgument [] := by
  rw [actOutputRejoin, h]
  rfl

/-- OUTPUT_REJOIN of a parked channel (R114). -/
theorem actOutputRejoin_of_parked (body : List Byte) (s : State) (f : Frame) (k : Output)
    (hk : output? (byteAt body 0) = some k) (h : (s.chan k).state = .parked) :
    actOutputRejoin body (s.handlingOf f) =
      Spec.channelReply f k (Spec.hostChange k .active (s.chan k).presence s) := by
  have hparked : ((s.handlingOf f).chan k).state = .parked := h
  have hchange := (s.handlingOf f).changeChan_host_retarget k .active (s.chan k).presence (by decide)
  rw [Spec.hostChange_handlingOf] at hchange
  rw [actOutputRejoin, hk]
  simp only [if_pos hparked]
  exact congrArg (fun t : State => t.answer .ok (t.chan k).report) hchange

/-- OUTPUT_REJOIN of a channel that is not parked (R114). -/
theorem actOutputRejoin_of_ne_parked (body : List Byte) (s : State) (f : Frame) (k : Output)
    (hk : output? (byteAt body 0) = some k) (h : (s.chan k).state ≠ .parked) :
    actOutputRejoin body (s.handlingOf f) = s.replied f .wrongState [] := by
  have hother : ((s.handlingOf f).chan k).state ≠ .parked := h
  rw [actOutputRejoin, hk]
  simp only [if_neg hother]
  rfl

/-! ### The requests as the link takes them (R172, R173, R164) -/

/-- Outside STARTUP the link passes a request of a fitting length to its rule `act`. -/
theorem State.submit_started {s : State} (f : Frame) {fits : Bool} (act : State → State) (hfree : s.Free)
    (hstarted : s.mode.mode ≠ .startup) (hfits : fits = true) :
    s.submit f (request fits false act) = act (s.handlingOf f) := by
  rw [State.submit_request s f fits act hfree hfits, State.unlessStarting, if_neg hstarted]

theorem exec_outputEnable_of_free {s : State} (tag b : Byte) (hfree : s.Free)
    (hstarted : s.mode.mode ≠ .startup) :
    exec (.outputEnable tag [b]) s =
      .next (channelRequest [b] State.enableChan (s.handlingOf ⟨0x20, tag, [b]⟩)) :=
  congrArg Host.Outcome.next (State.submit_started _ _ hfree hstarted rfl)

theorem exec_outputDisable_of_free {s : State} (tag b : Byte) (hfree : s.Free)
    (hstarted : s.mode.mode ≠ .startup) :
    exec (.outputDisable tag [b]) s =
      .next (channelRequest [b] State.disableChan (s.handlingOf ⟨0x21, tag, [b]⟩)) :=
  congrArg Host.Outcome.next (State.submit_started _ _ hfree hstarted rfl)

theorem exec_outputRejoin_of_free {s : State} (tag b : Byte) (hfree : s.Free)
    (hstarted : s.mode.mode ≠ .startup) :
    exec (.outputRejoin tag [b]) s =
      .next (actOutputRejoin [b] (s.handlingOf ⟨0x22, tag, [b]⟩)) :=
  congrArg Host.Outcome.next (State.submit_started _ _ hfree hstarted rfl)

/-- Settles O31: outside STARTUP the link passes each request to its rule. A number past 3 names no
channel; otherwise the channel's state picks the row of the request's table, and where a row changes
nothing the target, which follows, is taken again without effect. -/
theorem channelRequestsChangeTheState : Obligations.ChannelRequestsChangeTheState := by
  intro s tag b hfree hstarted hfollows
  rw [exec_outputEnable_of_free tag b hfree hstarted, exec_outputDisable_of_free tag b hfree hstarted,
    exec_outputRejoin_of_free tag b hfree hstarted]
  have hsame (f : Frame) : (s.handlingOf f).retarget = s.handlingOf f :=
    State.TargetFollows.retarget_eq (s := s.handlingOf f) hfollows
  refine ⟨fun hout => ?_, fun k hb => ?_⟩
  · have hnone : output? (byteAt [b] 0) = none := output?_eq_none hout
    exact ⟨congrArg _ (channelRequest_of_no_output _ _ s _ hnone),
      congrArg _ (channelRequest_of_no_output _ _ s _ hnone),
      congrArg _ (actOutputRejoin_of_no_output _ s _ hnone)⟩
  · have hk : output? (byteAt [b] 0) = some k := (congrArg output? hb).trans (output?_val k)
    refine ⟨congrArg _ (channelRequest_of_output _ _ s _ _ k hk ?_),
      congrArg _ (channelRequest_of_output _ _ s _ _ k hk ?_), congrArg _ ?_⟩
    · cases hstate : (s.chans.get k).state with
      | disabled => exact State.enableChan_of_disabled (s := s.handlingOf _) hstate
      | retiring => exact State.enableChan_of_retiring (s := s.handlingOf _) hstate
      | acquiring | active | lost | parked =>
        have hdisabled : (s.chan k).state ≠ .disabled := by simp [State.chan, hstate]
        have hretiring : (s.chan k).state ≠ .retiring := by simp [State.chan, hstate]
        rw [State.enableChan_of_enabled (s := s.handlingOf _) hdisabled hretiring]
        exact hsame _
    · cases hstate : (s.chans.get k).state with
      | active => exact State.disableChan_of_active (s := s.handlingOf _) hstate
      | acquiring => exact State.disableChan_of_acquiring (s := s.handlingOf _) hstate
      | lost => exact State.disableChan_of_out (s := s.handlingOf _) (.inl hstate)
      | parked => exact State.disableChan_of_out (s := s.handlingOf _) (.inr hstate)
      | disabled =>
        rw [State.disableChan_of_off (s := s.handlingOf _) (.inl hstate)]
        exact hsame _
      | retiring =>
        rw [State.disableChan_of_off (s := s.handlingOf _) (.inr hstate)]
        exact hsame _
    · by_cases hparked : (s.chans.get k).state = .parked
      · rw [if_pos hparked]
        exact actOutputRejoin_of_parked _ s _ k hk hparked
      · rw [if_neg hparked]
        exact actOutputRejoin_of_ne_parked _ s _ k hk hparked

end Sys2Proof.Machine
end

section
/-! PROOFS. Chapter 7, WRITE_SCENE (R133), with the rules every edit of the pending bank shares: the clamp
and its status (R175), and the admission by mode and pending state (R164, R132). -/

namespace Sys2Proof.Machine

/-! ### A clamped field and its status (R175) -/

theorem clamp_eq_max_min {lo hi : Nat} (h : lo ≤ hi) (v : Nat) : clamp lo hi v = max lo (min hi v) := by
  unfold clamp
  split
  · omega
  · split <;> omega

theorem clamps_iff (lo hi v : Nat) : clamps lo hi v = true ↔ v < lo ∨ hi < v := by
  simp [clamps]

theorem okOr_eq_ok_or_clamped (clamped : Bool) : okOr clamped = .ok ∨ okOr clamped = .clamped := by
  cases clamped
  · exact .inl rfl
  · exact .inr rfl

theorem okOr_eq_clamped_iff (clamped : Bool) : okOr clamped = .clamped ↔ clamped = true := by
  cases clamped <;> decide

/-! ### An edit as the link takes it (R132, R164) -/

/-- R132: the admission by pending state replies to the request being handled. -/
theorem admitEdit_handlingOf (act : State → State) (s : State) (f : Frame) :
    admitEdit act (s.handlingOf f) = s.whenEditable f (act (s.handlingOf f)) := by
  have hsame : (s.handlingOf f).banks.pendState = s.banks.pendState := rfl
  rw [admitEdit, State.whenEditable, hsame]
  cases s.banks.pendState <;> rfl

/-- The link passes an edit of a fitting length to its rule `act` in EDITABLE outside STARTUP. -/
theorem State.submit_edit (s : State) (f : Frame) (fits : Bool) (act : State → State) (hfree : s.Free)
    (hfits : fits = true) :
    s.submit f (request fits false (admitEdit act)) = Spec.editOutcome f (act (s.handlingOf f)) s := by
  rw [State.submit_request s f fits _ hfree hfits, admitEdit_handlingOf, Spec.editOutcome]

/-! ### The scene-wide fields (R133) -/

theorem sceneField_eq (marks n v kept : Nat) {lo hi : Nat} (h : lo ≤ hi) :
    sceneField marks n lo hi v kept = if marks.testBit n then max lo (min hi v) else kept := by
  rw [sceneField, clamp_eq_max_min h, mark]

theorem sceneClamps_iff (marks n lo hi v : Nat) :
    sceneClamps marks n lo hi v = true ↔ marks.testBit n = true ∧ (v < lo ∨ hi < v) := by
  rw [sceneClamps, Bool.and_eq_true, clamps_iff, mark]

/-- R133, R128: each scene-wide field by its mark and its range, in numbers. -/
theorem Scene.withBody_eq (sc : Scene) (body : List Byte) :
    sc.withBody body = { sc with
      canvasW := if (byteAt body 0).testBit 0 then max 640 (min 4096 (u16At body 1)) else sc.canvasW
      canvasH := if (byteAt body 0).testBit 1 then max 360 (min 2304 (u16At body 3)) else sc.canvasH
      rasterW := if (byteAt body 0).testBit 2 then max 640 (min 3840 (u16At body 5)) else sc.rasterW
      rasterH := if (byteAt body 0).testBit 3 then max 360 (min 2160 (u16At body 7)) else sc.rasterH
      ceiling := if (byteAt body 0).testBit 4 then max 1 (min 4 (byteAt body 9)) else sc.ceiling } := by
  simp (disch := decide) only [Scene.withBody, sceneField_eq]

/-- R133: WRITE_SCENE clamps exactly when a marked field is out of its range. -/
theorem sceneClamped_iff (body : List Byte) :
    sceneClamped body = true ↔
      ((byteAt body 0).testBit 0 = true ∧ (u16At body 1 < 640 ∨ 4096 < u16At body 1)) ∨
      ((byteAt body 0).testBit 1 = true ∧ (u16At body 3 < 360 ∨ 2304 < u16At body 3)) ∨
      ((byteAt body 0).testBit 2 = true ∧ (u16At body 5 < 640 ∨ 3840 < u16At body 5)) ∨
      ((byteAt body 0).testBit 3 = true ∧ (u16At body 7 < 360 ∨ 2160 < u16At body 7)) ∨
      ((byteAt body 0).testBit 4 = true ∧ (byteAt body 9 < 1 ∨ 4 < byteAt body 9)) := by
  simp only [sceneClamped, Bool.or_eq_true, sceneClamps_iff, or_assoc]

/-- WRITE_SCENE taken: the pending scene is rewritten, its degrade flags stay (R134), and the reply has no
body (R133). -/
theorem actWriteScene_handlingOf (s : State) (f : Frame) (body : List Byte) :
    actWriteScene body (s.handlingOf f) =
      (s.withPendingScene (s.pendingBank.scene.withBody body)).replied f (okOr (sceneClamped body)) [] :=
  State.answer_replied (s.withPendingScene (s.pendingBank.scene.withBody body)) f _ _

/-- Settles O34: the link and the pending state admit the request to its rule, which rewrites the five
scene-wide fields; the status is that of `sceneClamped`. -/
theorem writeSceneWritesTheMarkedFields : Obligations.WriteSceneWritesTheMarkedFields := by
  intro s tag body hfree hlength
  have hpassed : exec (.writeScene tag body) s = .next (Spec.editOutcome ⟨0x30, tag, body⟩
      (actWriteScene body (s.handlingOf ⟨0x30, tag, body⟩)) s) :=
    congrArg Host.Outcome.next
      (State.submit_edit s _ _ (actWriteScene body) hfree (decide_eq_true hlength))
  refine ⟨okOr (sceneClamped body), ?_, okOr_eq_ok_or_clamped _,
    (okOr_eq_clamped_iff _).trans (sceneClamped_iff body)⟩
  rw [hpassed, actWriteScene_handlingOf, Scene.withBody_eq]

end Sys2Proof.Machine
end

section
/-! PROOFS. Chapter 10, the status and indication requests: STATUS (R187, R182), FETCH (R185) and SET_MASK
(R186), which read and rewrite the Indication Unit and leave the rest of the part alone. -/

namespace Sys2Proof.Machine

/-! ### Fields of a reply body, read back (R176): a field is read past the fields before it -/

@[simp] theorem byteAt_b8_append_zero (n : Nat) (rest : List Byte) :
    byteAt (b8 n ++ rest) 0 = n % 256 := rfl

@[simp] theorem byteAt_b8_append_succ (n i : Nat) (rest : List Byte) :
    byteAt (b8 n ++ rest) (i + 1) = byteAt rest i := rfl

@[simp] theorem byteAt_b16_append_add_two (n i : Nat) (rest : List Byte) :
    byteAt (b16 n ++ rest) (i + 2) = byteAt rest i := rfl

@[simp] theorem u16At_b8_append_succ (n i : Nat) (rest : List Byte) :
    u16At (b8 n ++ rest) (i + 1) = u16At rest i := rfl

@[simp] theorem u16At_b16_append_add_two (n i : Nat) (rest : List Byte) :
    u16At (b16 n ++ rest) (i + 2) = u16At rest i := rfl

@[simp] theorem u16At_b16_append_zero (n : Nat) (rest : List Byte) :
    u16At (b16 n ++ rest) 0 = n % 65536 := by
  have hlow : byteAt (b16 n ++ rest) 0 = n % 256 := rfl
  have hhigh : byteAt (b16 n ++ rest) (0 + 1) = n / 256 % 256 := rfl
  rw [u16At, hlow, hhigh]
  omega

@[simp] theorem u16At_b16 (n : Nat) : u16At (b16 n) 0 = n % 65536 :=
  u16At_b16_append_zero n []

/-- R176: a 16-bit register goes out low byte first. -/
theorem b16_toNat (w : BitVec 16) : b16 w.toNat = [w.setWidth 8, (w >>> 8).setWidth 8] := by
  have hlow : BitVec.ofNat 8 w.toNat = w.setWidth 8 := BitVec.ofNat_toNat 8 w
  have hhigh : BitVec.ofNat 8 (w.toNat / 256) = (w >>> 8).setWidth 8 := by
    rw [← BitVec.ofNat_toNat, BitVec.toNat_ushiftRight, Nat.shiftRight_eq_div_pow]
  rw [b16, hlow, hhigh]

/-! ### Codes that fit their fields (R182) -/

@[simp] theorem PartMode.code_mod (m : PartMode) : m.code % 256 = m.code := by
  cases m <;> rfl

@[simp] theorem AcqState.code_mod (a : AcqState) : a.code % 256 = a.code := by
  cases a <;> rfl

@[simp] theorem ChanState.code_mod (c : ChanState) : c.code % 256 = c.code := by
  cases c <;> rfl

@[simp] theorem PendState.code_mod (p : PendState) : p.code % 256 = p.code := by
  cases p <;> rfl

@[simp] theorem Ctl.code_mod (c : Ctl) : c.code % 256 = c.code := by
  cases c <;> rfl

theorem boolCode_le_one (b : Bool) : boolCode b ≤ 1 := by
  cases b <;> decide

/-- The eleven flags fill bits 0 to 10 of their field. -/
theorem CaptureFlags.word_lt (f : CaptureFlags) : f.word < 65536 := by
  have hbit := boolCode_le_one
  unfold CaptureFlags.word
  linarith only [hbit f.inputLost, hbit f.acqTimeout, hbit f.outputLost.o0, hbit f.outputLost.o1,
    hbit f.outputLost.o2, hbit f.outputLost.o3, hbit f.slip, hbit f.tornInput, hbit f.linkDiscard,
    hbit f.queueOverrun, hbit f.profileBad]

@[simp] theorem CaptureFlags.word_mod (f : CaptureFlags) : f.word % 65536 = f.word :=
  Nat.mod_eq_of_lt f.word_lt

/-! ### STATUS (R187) -/

/-- STATUS taken: the body is of the flags as held before they are cleared. -/
theorem actStatus_handlingOf (s : State) (f : Frame) :
    actStatus (s.handlingOf f) =
      ({ s with ind := { s.ind with flags := noFlags } } : State).replied f .ok s.statusBody :=
  State.answer_replied { s with ind := { s.ind with flags := noFlags } } f .ok s.statusBody

theorem exec_status_of_free {s : State} (tag : Byte) (hfree : s.Free) :
    exec (.status tag []) s = .next
      (({ s with ind := { s.ind with flags := noFlags } } : State).replied ⟨0x03, tag, []⟩ .ok
        s.statusBody) :=
  congrArg Host.Outcome.next
    ((State.submit_early s _ _ actStatus hfree rfl).trans (actStatus_handlingOf s _))

/-- R182: the fields of the STATUS reply, one after the other. -/
theorem State.statusBody_eq (s : State) :
    s.statusBody = b8 s.mode.mode.code ++ (b8 s.acq.state.code ++
      (b8 s.chans.o0.state.code ++ (b8 s.chans.o1.state.code ++
      (b8 s.chans.o2.state.code ++ (b8 s.chans.o3.state.code ++
      (b16 s.chans.o0.presence ++ (b16 s.chans.o1.presence ++
      (b16 s.chans.o2.presence ++ (b16 s.chans.o3.presence ++
      (b16 s.master.level ++ (b16 s.master.target ++
      (b8 s.banks.pendState.code ++ (b16 s.banks.revision.toNat ++
      (b8 s.profiles.ctl.code ++ (b8 s.ind.queue.length ++
      b16 s.ind.flags.word))))))))))))))) := by
  simp [State.statusBody, Four.toList]

theorem State.statusBody_length (s : State) : s.statusBody.length = 25 := by
  simp [State.statusBody_eq, b8, b16]

/-- R182: one byte for each channel's state from byte 2 on. -/
theorem State.statusBody_chanState (s : State) (k : Output) :
    byteAt s.statusBody (2 + k.val) = (s.chans.get k).state.code := by
  match k with
  | 0 | 1 | 2 | 3 => simp [State.statusBody_eq, Four.get]

/-- R182: two bytes for each channel's presence from byte 6 on. -/
theorem State.statusBody_presence (s : State) (k : Output) :
    u16At s.statusBody (6 + 2 * k.val) = (s.chans.get k).presence % 65536 := by
  match k with
  | 0 | 1 | 2 | 3 => simp [State.statusBody_eq, Four.get]

/-- Settles O22: every mode takes STATUS; its rule replies with `statusBody` and clears the flags. Each
position of the body is read past the fields before it, and a code or the flags word fits its field. -/
theorem statusReportsAndClearsTheFlags : Obligations.StatusReportsAndClearsTheFlags := by
  intro s tag hfree
  refine ⟨s.statusBody, exec_status_of_free tag hfree, s.statusBody_length, ?mode, ?acquisition,
    fun k => ⟨s.statusBody_chanState k, s.statusBody_presence k⟩, ?level, ?target, ?pendState, ?revision,
    ?controller, ?queue, ?flags⟩
  case mode | acquisition | level | target | pendState | controller | queue | flags =>
    simp [State.statusBody_eq]
  case revision =>
    simpa [State.statusBody_eq] using s.banks.revision.isLt

/-! ### FETCH and SET_MASK (R185, R186) -/

/-- R185: nothing is left behind the first `n` records exactly when no more than `n` wait. -/
theorem isEmpty_drop_eq_decide {α : Type} (n : Nat) (l : List α) :
    (l.drop n).isEmpty = decide (l.length ≤ n) := by
  rw [Bool.eq_iff_iff, List.isEmpty_iff, List.drop_eq_nil_iff, decide_eq_true_iff]

/-- FETCH taken: the first eight records leave the queue for the reply. -/
theorem actFetch_handlingOf (s : State) (f : Frame) :
    actFetch (s.handlingOf f) =
      ({ s with ind := { s.ind with
          queue := s.ind.queue.drop 8
          attnN := decide (s.ind.queue.length ≤ 8) } } : State).replied f .ok
        (BitVec.ofNat 8 (min 8 s.ind.queue.length) ::
          ((s.ind.queue.take 8).map Indication.bytes).flatten) := by
  rw [← isEmpty_drop_eq_decide, ← List.length_take]
  exact State.answer_replied { s with ind := { s.ind with
    queue := s.ind.queue.drop 8, attnN := (s.ind.queue.drop 8).isEmpty } } f _ _

/-- SET_MASK taken: the reply carries the mask as held before. -/
theorem actSetMask_handlingOf (s : State) (f : Frame) (body : List Byte) :
    actSetMask body (s.handlingOf f) =
      ({ s with ind := { s.ind with mask := BitVec.ofNat 16 (u16At body 0) } } : State).replied f .ok
        [s.ind.mask.setWidth 8, (s.ind.mask >>> 8).setWidth 8] := by
  rw [← b16_toNat]
  exact State.answer_replied { s with ind := { s.ind with
    mask := BitVec.ofNat 16 (u16At body 0) } } f _ _

/-- Settles O23: every mode takes FETCH, and outside STARTUP the link passes a SET_MASK of two bytes to its
rule; each of the two rules rewrites the Indication Unit and replies. -/
theorem fetchRemovesAndSetMaskWrites : Obligations.FetchRemovesAndSetMaskWrites := by
  intro s tag hfree
  refine ⟨?_, fun body hlength => ?_⟩
  · have hpassed : exec (.fetch tag []) s = .next (actFetch (s.handlingOf ⟨0x04, tag, []⟩)) :=
      congrArg Host.Outcome.next (State.submit_early s _ _ actFetch hfree rfl)
    rw [hpassed, actFetch_handlingOf]
  · have hpassed : exec (.setMask tag body) s = .next (s.unlessStarting ⟨0x05, tag, body⟩
        (actSetMask body (s.handlingOf ⟨0x05, tag, body⟩))) :=
      congrArg Host.Outcome.next
        (State.submit_request s _ _ (actSetMask body) hfree (decide_eq_true hlength))
    rw [hpassed, actSetMask_handlingOf]

end Sys2Proof.Machine
end

section
/-! PROOFS. Chapters 3 to 7, the ranges of what a request writes (R45, R64, R86, R88, R103, R128): each edit
keeps a scene in range, and SET_OUTPUT_CONTROL keeps the output controls in range. -/

namespace Sys2Proof.Machine

theorem clamp_bounds {lo hi : Nat} (h : lo ≤ hi) (v : Nat) : lo ≤ clamp lo hi v ∧ clamp lo hi v ≤ hi := by
  rw [clamp_eq_max_min h]
  omega

theorem clampInt_eq_max_min {lo hi : Int} (h : lo ≤ hi) (v : Int) :
    clampInt lo hi v = max lo (min hi v) := by
  unfold clampInt
  split
  · omega
  · split <;> omega

theorem clampInt_bounds {lo hi : Int} (h : lo ≤ hi) (v : Int) :
    lo ≤ clampInt lo hi v ∧ clampInt lo hi v ≤ hi := by
  rw [clampInt_eq_max_min h]
  omega

/-! ### Batches (R46, R87) -/

theorem length_overwrite {α : Type} {first : Nat} {new old : List α} (h : first + new.length ≤ old.length) :
    (overwrite first new old).length = old.length := by
  simp only [overwrite, List.length_append, List.length_take, List.length_drop]
  omega

theorem mem_overwrite {α : Type} {first : Nat} {new old : List α} {x : α}
    (h : x ∈ overwrite first new old) : x ∈ new ∨ x ∈ old := by
  simp only [overwrite, List.mem_append] at h
  rcases h with h | h | h
  · exact .inr (List.mem_of_mem_take h)
  · exact .inl h
  · exact .inr (List.mem_of_mem_drop h)

theorem batchFits_iff (first count size : Nat) :
    batchFits first count size = true ↔ 1 ≤ count ∧ count ≤ 64 ∧ first + count ≤ size := by
  simp [batchFits, and_assoc]

theorem pitch?_eq_some {v p : Nat} (h : pitch? v = some p) :
    p = v ∧ (p = 16 ∨ p = 32 ∨ p = 64 ∨ p = 128) := by
  unfold pitch? at h
  split at h
  · cases h
    exact ⟨rfl, ‹_›⟩
  · cases h

/-! ### Records as clamped (R46, R66, R89) -/

theorem Point.clamped_inRange (p : Point) : p.clamped.InRange :=
  have hx := clampInt_bounds (lo := Config.minCoord) (hi := Config.maxCoord) (by decide) p.sx
  have hy := clampInt_bounds (lo := Config.minCoord) (hi := Config.maxCoord) (by decide) p.sy
  ⟨hx.1, hx.2, hy.1, hy.2, Nat.min_le_left _ _⟩

theorem Coverage.clamped_inRange (c : Coverage) : c.clamped.InRange := by
  constructor <;> exact Nat.min_le_left _ _

theorem Tone.clamped_inRange (t : Tone) : t.clamped.InRange :=
  ⟨⟨Nat.min_le_left _ _, Nat.min_le_left _ _, Nat.min_le_left _ _⟩,
    ⟨Nat.min_le_left _ _, Nat.min_le_left _ _, Nat.min_le_left _ _⟩⟩

/-! ### Scenes under the edits -/

theorem sceneField_bounds {lo hi : Nat} (marks n v kept : Nat) (h : lo ≤ hi)
    (hk : lo ≤ kept ∧ kept ≤ hi) :
    lo ≤ sceneField marks n lo hi v kept ∧ sceneField marks n lo hi v kept ≤ hi := by
  unfold sceneField
  split
  · exact clamp_bounds h v
  · exact hk

/-- R133: WRITE_SCENE keeps a scene in range. -/
theorem Scene.InRange.withBody {sc : Scene} (h : sc.InRange) (body : List Byte) :
    (sc.withBody body).InRange where
  canvasW := sceneField_bounds _ _ _ _ (by decide) h.canvasW
  canvasH := sceneField_bounds _ _ _ _ (by decide) h.canvasH
  rasterW := sceneField_bounds _ _ _ _ (by decide) h.rasterW
  rasterH := sceneField_bounds _ _ _ _ (by decide) h.rasterH
  ceiling := sceneField_bounds _ _ _ _ (by decide) h.ceiling
  entries := h.entries
  decode := h.decode
  outs := h.outs

/-- An edit of one output keeps a scene in range where it keeps that output so. -/
theorem Scene.InRange.withOutput {sc : Scene} (h : sc.InRange) {k : Output} {o : OutputScene}
    (ho : o.InRange) : (sc.withOutput k o).InRange where
  canvasW := h.canvasW
  canvasH := h.canvasH
  rasterW := h.rasterW
  rasterH := h.rasterH
  ceiling := h.ceiling
  entries := h.entries
  decode := h.decode
  outs := fun j => by
    by_cases hj : j = k
    · subst hj
      simpa [Scene.withOutput] using ho
    · simpa [Scene.withOutput, Four.get_set_other _ _ _ _ hj] using h.outs j

/-- R47. -/
theorem OutputScene.InRange.withPitch {o : OutputScene} (h : o.InRange) {p : Nat}
    (hp : p = 16 ∨ p = 32 ∨ p = 64 ∨ p = 128) : { o with pitch := p }.InRange :=
  { h with pitch := hp }

/-- R46. -/
theorem OutputScene.InRange.withPoints {o : OutputScene} (h : o.InRange) {first : Nat} (new : List Point)
    (hfits : first + new.length ≤ Config.meshRecords) :
    { o with points := overwrite first (new.map Point.clamped) o.points }.InRange :=
  { h with
    records := (length_overwrite (by simpa [h.records] using hfits)).trans h.records
    points := fun p hp => by
      rcases mem_overwrite hp with hp | hp
      · obtain ⟨q, _, rfl⟩ := List.mem_map.1 hp
        exact q.clamped_inRange
      · exact h.points p hp }

/-- R66. -/
theorem OutputScene.InRange.withCoverage {o : OutputScene} (h : o.InRange) (c : Coverage) :
    { o with coverage := c.clamped }.InRange :=
  { h with coverage := c.clamped_inRange }

/-- R89. -/
theorem OutputScene.InRange.withTone {o : OutputScene} (h : o.InRange) (t : Tone) :
    { o with tone := t.clamped }.InRange :=
  { h with tone := t.clamped_inRange }

/-- R87. -/
theorem OutputScene.InRange.withEncode {o : OutputScene} (h : o.InRange) {first : Nat} (new : List Nat)
    (hfits : first + new.length ≤ Config.tableEntries) :
    { o with encode := overwrite first (new.map (min Config.maxCode)) o.encode }.InRange :=
  { h with
    entries := (length_overwrite (by simpa [h.entries] using hfits)).trans h.entries
    encode := fun e he => by
      rcases mem_overwrite he with he | he
      · obtain ⟨q, _, rfl⟩ := List.mem_map.1 he
        exact Nat.min_le_left _ _
      · exact h.encode e he }

/-- R87. -/
theorem Scene.InRange.withDecode {sc : Scene} (h : sc.InRange) {first : Nat} {new : List Nat}
    (hfits : first + new.length ≤ Config.tableEntries) (hnew : ∀ e ∈ new, e ≤ Config.maxLinear) :
    { sc with decode := overwrite first new sc.decode }.InRange :=
  { h with
    entries := (length_overwrite (by simpa [h.entries] using hfits)).trans h.entries
    decode := fun e he => (mem_overwrite he).elim (hnew e) (h.decode e) }

@[simp] theorem length_meshBatch (body : List Byte) : (meshBatch body).length = byteAt body 3 := by
  simp [meshBatch]

@[simp] theorem length_tableBatch (body : List Byte) : (tableBatch body).length = byteAt body 3 := by
  simp [tableBatch]

theorem tableBatch_le (body : List Byte) : ∀ e ∈ tableBatch body, e ≤ Config.maxLinear := by
  intro e he
  obtain ⟨i, _, rfl⟩ := List.mem_map.1 he
  exact u16At_le body _

/-! ### Output controls (R122) -/

theorem clampCarried_bounds {lo hi : Nat} (marked : Bool) (v kept : Nat) (h : lo ≤ hi)
    (hk : lo ≤ kept ∧ kept ≤ hi) :
    lo ≤ clampCarried marked lo hi v kept ∧ clampCarried marked lo hi v kept ≤ hi := by
  unfold clampCarried
  split
  · exact clamp_bounds h v
  · exact hk

theorem OutputControls.InRange.withBody {c new : OutputControls} (h : c.InRange) {body : List Byte}
    (hnew : c.withBody body = some new) : new.InRange := by
  unfold OutputControls.withBody at hnew
  dsimp only at hnew
  split at hnew
  · cases hnew
    exact ⟨clampCarried_bounds _ _ _ (by decide) h.lossConfirm,
      clampCarried_bounds _ _ _ (by decide) h.settle, clampCarried_bounds _ _ _ (by decide) h.rise,
      clampCarried_bounds _ _ _ (by decide) h.fall,
      (clampCarried_bounds _ _ _ (by decide) ⟨Nat.zero_le _, h.level⟩).2⟩
  · cases hnew

end Sys2Proof.Machine
end

section
/-! PROOFS. What one command can do to the part, said once: a chain of changes, each with what is known of
the state it starts from. Every relation that steps keep is then shown change by change. -/

namespace Sys2Proof.Machine

/-- One event at one block, or one write by a request. Beside the changes of the link, the pins, the capture
flags and the free-value counter, which most relations do not speak of, each carries the condition under
which the model makes it. -/
inductive Change : State → State → Prop
  | link (s : State) (l : Link) : Change s { s with link := l }
  | pins (s : State) (p : Pins) : Change s { s with pins := p }
  | flags (s : State) (f : CaptureFlags → CaptureFlags) : Change s (s.setFlags f)
  | free (s : State) : Change s s.bumpFree
  | restart (s : State) (straps : BitVec 2) : Change s (s.restart straps)
  | wakeUp (s : State) (env : Env) : Change s (s.wakeUp env)
  | dim (s : State) (home : HomeMode) : Change s (s.startDimming home)
  | loseInput (s : State) : s.acq.state ≠ .noSignal → Change s s.loseInput.retarget
  | frameStart (s : State) (time : Nat) (env : Env) : s.mode.mode ≠ .standby →
      Change s (s.inputStart time env).retarget
  | frameEnd (s : State) (frame : InputFrame) : s.mode.mode ≠ .standby →
      Change s (s.inputEnd frame).retarget
  | acquireTimeout (s : State) : s.acq.acqTimer ≠ none → Change s s.acquireTimeout.retarget
  | holdTimeout (s : State) : Change s (State.retarget { s with acq := { s.acq with holdTimer := none } })
  | timerStart (s : State) (env : Env) : s.timer.running = true → Change s (s.timerStart env)
  | copyBack (s : State) : s.banks.pendState = .syncing → Change s s.finishCopyBack
  | load (s : State) (n : ProfileNo) (arm good : Bool) : s.profiles.ctl = .loading n arm →
      Change s (s.finishLoad n arm good)
  | store (s : State) (n : ProfileNo) (image : Profile) (begun verified written : Bool) :
      s.profiles.ctl = .storing n image begun → Change s (s.finishStore n image verified written)
  | erase (s : State) (n : ProfileNo) (erased : Area) (begun blank written : Bool) :
      s.profiles.ctl = .erasing n erased begun → Change s (s.finishErase n erased blank written)
  | bootWrite (s : State) (boot : Option ProfileNo) (written : Bool) :
      s.profiles.ctl = .writingDirectory boot → Change s (s.finishBootWrite boot written)
  | scan (s : State) : s.profiles.ctl = .scanning → Change s s.finishScan
  | scanStep (s : State) (r : ScanReading) : s.profiles.ctl = .scanning → Change s (s.scanStep r)
  | directoryBegin (s : State) : Change s (s.onProfiles ProfileStore.beginDirectoryPhase)
  | fetch (s : State) : Change s { s with ind := { s.ind with
      queue := s.ind.queue.drop Config.fetchRoom, attnN := (s.ind.queue.drop Config.fetchRoom).isEmpty } }
  | mask (s : State) (m : BitVec 16) : Change s { s with ind := { s.ind with mask := m } }
  | inputControls (s : State) (c : InputControls) : (s.acq.controls.hold ≤ Config.maxHold → c.hold ≤ Config.maxHold) →
      Change s (s.applyInputControls c).retarget
  | acceptInput (s : State) : s.acq.state = .awaitAccept → Change s (s.moveTo .locking []).retarget
  | freePeriod (s : State) (p staged : Nat) : Config.minPeriod ≤ p → p ≤ Config.maxPeriod →
      Change s { s with timer := { s.timer with free := p, staged := staged } }
  | master (s : State) (mute : Bool) (step : Nat) :
      (1 ≤ s.master.step ∧ s.master.step ≤ Config.one → 1 ≤ step ∧ step ≤ Config.one) →
      Change s (State.retarget { s with master := { s.master with mute := mute, step := step } })
  | counters (s : State) : Change s { s with frames := { s.frames with slips := 0, armed := true } }
  | threshold (s : State) (v : Nat) : 1 ≤ v → v ≤ 65535 →
      Change s { s with frames := { s.frames with threshold := v } }
  | enable (s : State) (k : Output) : Change s (s.enableChan k).retarget
  | disable (s : State) (k : Output) : Change s (s.disableChan k).retarget
  | rejoin (s : State) (k : Output) : (s.chan k).state = .parked →
      Change s (s.changeChan k { s.chan k with state := .active } .host).retarget
  | outputControls (s : State) (k : Output) (c : OutputControls) :
      ((s.chan k).controls.InRange → c.InRange) →
      Change s (s.setChan k { s.chan k with controls := c }).retarget
  | edit (s : State) (f : Scene → Scene) : s.banks.pendState = .editable →
      (s.pendingBank.scene.InRange → (f s.pendingBank.scene).InRange) → Change s (s.editScene f)
  | commit (s : State) : s.pendingBank.scene.valid = true →
      Change s ((s.setPendingBank s.pendingBank.scene.derived).setPendState .armed)
  | release (s : State) (p : PendState) : p ≠ .armed → Change s (s.setPendState p)
  | probe (s : State) (p : Probe) : s.mode.mode ≠ .standby → Change s { s with probe := p }
  | beginLoad (s : State) (n : ProfileNo) (arm : Bool) :
      Change s (s.onProfiles (ProfileStore.setCtl (.loading n arm)))
  | beginStore (s : State) (n : ProfileNo) (revision : BitVec 16) (label : List Byte) :
      Change s (s.onProfiles (ProfileStore.beginStore n (s.captureProfile revision label)))
  | beginErase (s : State) (n : ProfileNo) : Change s (s.onProfiles (ProfileStore.beginErase n))
  | beginBoot (s : State) (boot : Option ProfileNo) : Change s (s.onProfiles (ProfileStore.beginBoot boot))

/-- A chain of changes. -/
abbrev Changes : State → State → Prop := Relation.ReflTransGen Change

theorem Change.changes {s t : State} (h : Change s t) : Changes s t := .single h

/-! ### Requests (R172 to R174) -/

theorem changes_answer (s : State) (st : Status) (body : List Byte) : Changes s (s.answer st body) := by
  unfold State.answer
  split
  · exact .refl
  · exact (Change.link s _).changes

theorem changes_refuse (s : State) (st : Status) : Changes s (s.refuse st) := changes_answer s st []

/-- A change that is then answered. -/
theorem Change.answered {s t : State} (h : Change s t) (st : Status) (body : List Byte) :
    Changes s (t.answer st body) :=
  h.changes.trans (changes_answer t st body)

theorem changes_request {act : State → State} {s : State} (fits early : Bool) (h : Changes s (act s)) :
    Changes s (request fits early act s) := by
  rcases request_cases fits early act s with ⟨_, e⟩ | ⟨_, _, _, e⟩ | ⟨_, _, e⟩
  · exact e ▸ changes_refuse s _
  · exact e ▸ changes_refuse s _
  · exact e ▸ h

theorem changes_admitEdit {act : State → State} {s : State}
    (h : s.banks.pendState = .editable → Changes s (act s)) : Changes s (admitEdit act s) := by
  rcases admitEdit_cases act s with ⟨he, e⟩ | ⟨_, e⟩ | ⟨_, e⟩
  · exact e ▸ h he
  · exact e ▸ changes_refuse s _
  · exact e ▸ changes_refuse s _

theorem changes_admitProfile {act : State → State} {s : State} (h : Changes s (act s)) :
    Changes s (admitProfile act s) := by
  rcases admitProfile_cases act s with ⟨_, e⟩ | ⟨_, e⟩ | ⟨_, _, e⟩
  · exact e ▸ changes_refuse s _
  · exact e ▸ h
  · exact e ▸ changes_refuse s _

/-- The rest of an edit of one output, in the words of `Change.edit`. -/
theorem Change.editOutput {s : State} (k : Output) (f : OutputScene → OutputScene)
    (he : s.banks.pendState = .editable)
    (h : (s.pendingBank.scene.outs.get k).InRange → (f (s.pendingBank.scene.outs.get k)).InRange) :
    Change s (s.editOutput k f) :=
  .edit s _ he fun hsc => hsc.withOutput (h (hsc.outs k))

/-! ### The rules of the requests, one by one -/

section Rules

variable (s : State) (body : List Byte)

theorem changes_actStatus : Changes s (actStatus s) := (Change.flags s _).answered _ _

theorem changes_actFetch : Changes s (actFetch s) := (Change.fetch s).answered _ _

theorem changes_actSetMask : Changes s (actSetMask body s) := (Change.mask s _).answered _ _

theorem changes_goDark : Changes s s.goDark := by
  unfold State.goDark
  split
  · exact (Change.dim s _).changes
  · exact (Change.dim s _).changes
  · exact .refl

theorem changes_actSetInputControl : Changes s (actSetInputControl body s) := by
  unfold actSetInputControl
  dsimp only
  split
  · refine (Change.inputControls s _ fun h => ?_).answered _ _
    dsimp only
    split
    · exact (clamp_bounds (by decide) _).2
    · exact h
  · exact changes_refuse s _

theorem changes_actAcceptInput : Changes s (actAcceptInput s) := by
  by_cases h : s.acq.state = .awaitAccept
  · rw [actAcceptInput, if_pos h]
    exact (Change.acceptInput s h).answered _ _
  · rw [actAcceptInput_of_ne_awaitAccept s h]
    exact changes_refuse s _

theorem changes_actSetFreePeriod : Changes s (actSetFreePeriod body s) :=
  have h := clamp_bounds (lo := Config.minPeriod) (hi := Config.maxPeriod) (by decide) (u32At body 0)
  (Change.freePeriod s _ _ h.1 h.2).answered _ _

theorem changes_actSetMaster : Changes s (actSetMaster body s) := by
  unfold actSetMaster
  dsimp only
  split
  · exact changes_refuse s _
  · refine (Change.master s _ _ fun h => ?_).answered _ _
    split
    · exact clamp_bounds (by decide) _
    · exact h

theorem changes_actReadCounters : Changes s (actReadCounters s) := (Change.counters s).answered _ _

theorem changes_actSetSlipThreshold : Changes s (actSetSlipThreshold body s) :=
  have h := clamp_bounds (lo := 1) (hi := 65535) (by decide) (u16At body 0)
  (Change.threshold s _ h.1 h.2).answered _ _

theorem changes_channelRequest {act : Output → State → State}
    (h : ∀ k, Change s (act k s).retarget) : Changes s (channelRequest body act s) := by
  unfold channelRequest
  split
  · exact changes_refuse s _
  · exact (h _).answered _ _

theorem changes_actOutputRejoin : Changes s (actOutputRejoin body s) := by
  unfold actOutputRejoin
  dsimp only
  split
  · exact changes_refuse s _
  · split
    · exact (Change.rejoin s _ ‹_›).answered _ _
    · exact changes_refuse s _

theorem changes_actSetOutputControl : Changes s (actSetOutputControl body s) := by
  unfold actSetOutputControl
  split
  · exact changes_refuse s _
  · split
    · exact changes_refuse s _
    · exact (Change.outputControls s _ _ fun h => h.withBody ‹_›).answered _ _

theorem changes_actWriteScene (he : s.banks.pendState = .editable) : Changes s (actWriteScene body s) :=
  (Change.edit s _ he fun h => h.withBody body).answered _ _

theorem changes_actWriteLayout (he : s.banks.pendState = .editable) :
    Changes s (actWriteLayout body s) := by
  unfold actWriteLayout
  split
  · next hp => exact (Change.editOutput _ _ he fun h => h.withPitch (pitch?_eq_some hp).2).answered _ _
  · exact changes_refuse s _

theorem changes_actWriteMesh (he : s.banks.pendState = .editable) : Changes s (actWriteMesh body s) := by
  unfold actWriteMesh
  dsimp only
  split
  · exact changes_refuse s _
  · split
    · next hb =>
      obtain ⟨_, _, hfits⟩ := (batchFits_iff _ _ _).1 hb
      exact (Change.editOutput _ _ he fun h => h.withPoints _ (by simpa using hfits)).answered _ _
    · exact changes_refuse s _

theorem changes_actWriteCoverage (he : s.banks.pendState = .editable) :
    Changes s (actWriteCoverage body s) := by
  unfold actWriteCoverage
  split
  · exact changes_refuse s _
  · exact (Change.editOutput _ _ he fun h => h.withCoverage _).answered _ _

theorem changes_actWriteTone (he : s.banks.pendState = .editable) : Changes s (actWriteTone body s) := by
  unfold actWriteTone
  split
  · exact changes_refuse s _
  · exact (Change.editOutput _ _ he fun h => h.withTone _).answered _ _

theorem changes_actWriteTable (he : s.banks.pendState = .editable) : Changes s (actWriteTable body s) := by
  unfold actWriteTable
  dsimp only
  split
  · exact changes_refuse s _
  · split
    · next hb =>
      obtain ⟨_, _, hfits⟩ := (batchFits_iff _ _ _).1 hb
      split
      · exact (Change.edit s _ he fun h =>
          h.withDecode (by simpa using hfits) (tableBatch_le body)).answered _ _
      · exact (Change.editOutput _ _ he fun h => h.withEncode _ (by simpa using hfits)).answered _ _
    · exact changes_refuse s _

theorem changes_actReadMesh : Changes s (actReadMesh body s) := by
  unfold actReadMesh
  split
  · split
    · exact (Change.free s).answered _ _
    · exact changes_refuse s _
  · exact changes_refuse s _

theorem changes_actReadBankInfo : Changes s (actReadBankInfo body s) := by
  unfold actReadBankInfo
  split
  · exact changes_refuse s _
  · split
    · exact changes_refuse s _
    · exact (Change.free s).answered _ _

theorem changes_actCommit : Changes s (actCommit s) := by
  unfold actCommit
  split
  · exact changes_answer s _ _
  · next h => exact (Change.commit s (by simp [Scene.valid, h])).answered _ _

theorem changes_actDisarm : Changes s (actDisarm s) := by
  unfold actDisarm
  split
  · exact (Change.release s .editable (by decide)).answered _ _
  all_goals exact changes_refuse s _

theorem changes_actRevert : Changes s (actRevert s) := (Change.release s .syncing (by decide)).answered _ _

theorem changes_actProbe : Changes s (actProbe body s) := by
  unfold actProbe
  split
  · exact changes_refuse s _
  · split
    · exact changes_refuse s _
    · split
      · split
        · exact changes_refuse s _
        · exact (Change.probe s _ ‹_›).answered _ _
        · exact (Change.probe s _ ‹_›).answered _ _
      · exact changes_refuse s _

theorem changes_actProbeRead : Changes s (actProbeRead s) := by
  unfold actProbeRead
  split
  · exact changes_answer s _ _
  · exact changes_refuse s _
  · exact changes_refuse s _

theorem changes_loadInto (n : ProfileNo) (arm : Bool) : Changes s (loadInto n arm s) := by
  unfold loadInto
  split
  · exact (Change.release s .loading (by decide)).changes.trans ((Change.beginLoad _ n arm).answered _ _)
  all_goals exact changes_refuse s _

theorem changes_actProfileLoad : Changes s (actProfileLoad body s) := by
  unfold actProfileLoad
  split
  · split
    · exact changes_refuse s _
    · exact changes_refuse s _
    · exact changes_loadInto s _ _
  · exact changes_refuse s _

theorem changes_actProfileStore : Changes s (actProfileStore body s) := by
  unfold actProfileStore
  dsimp only
  split
  · exact changes_refuse s _
  · repeat' split
    · exact changes_refuse s _
    · exact changes_refuse s _
    · exact changes_refuse s _
    · exact (Change.beginStore s _ _ _).answered _ _

theorem changes_actProfileErase : Changes s (actProfileErase body s) := by
  unfold actProfileErase
  split
  · exact changes_refuse s _
  · split
    · exact changes_refuse s _
    · exact (Change.beginErase s _).answered _ _

theorem changes_actProfileSetBoot : Changes s (actProfileSetBoot body s) := by
  unfold actProfileSetBoot
  split
  · exact changes_refuse s _
  · exact (Change.beginBoot s _).answered _ _
  · split
    · exact changes_refuse s _
    · exact changes_refuse s _
    · exact (Change.beginBoot s _).answered _ _

theorem changes_actProfileList : Changes s (actProfileList s) := (Change.free s).answered _ _

end Rules

/-- R172, R173: the rule of every code of the catalogue, and the refusal of every other code. -/
theorem changes_handleFrame (f : Frame) (env : Env) (s : State) : Changes s (handleFrame f env s) := by
  unfold handleFrame
  split
  · exact changes_request _ _ (changes_answer s _ _)
  · exact changes_request _ _ (changes_answer s _ _)
  · exact changes_request _ _ (changes_actStatus s)
  · exact changes_request _ _ (changes_actFetch s)
  · exact changes_request _ _ (changes_actSetMask s _)
  · exact changes_request _ _ ((changes_goDark s).trans (changes_answer _ _ _))
  · exact changes_request _ _ ((Change.wakeUp s env).answered _ _)
  · exact changes_request _ _ (changes_actSetInputControl s _)
  · exact changes_request _ _ (changes_actAcceptInput s)
  · exact changes_request _ _ (changes_actSetFreePeriod s _)
  · exact changes_request _ _ (changes_actSetMaster s _)
  · exact changes_request _ _ (changes_actReadCounters s)
  · exact changes_request _ _ (changes_actSetSlipThreshold s _)
  · exact changes_request _ _ (changes_channelRequest s _ fun k => .enable s k)
  · exact changes_request _ _ (changes_channelRequest s _ fun k => .disable s k)
  · exact changes_request _ _ (changes_actOutputRejoin s _)
  · exact changes_request _ _ (changes_actSetOutputControl s _)
  · exact changes_request _ _ (changes_admitEdit (changes_actWriteScene s _))
  · exact changes_request _ _ (changes_admitEdit (changes_actWriteLayout s _))
  · exact changes_request _ _ (changes_admitEdit (changes_actWriteMesh s _))
  · exact changes_request _ _ (changes_actReadMesh s _)
  · exact changes_request _ _ (changes_admitEdit (changes_actWriteCoverage s _))
  · exact changes_request _ _ (changes_admitEdit (changes_actWriteTone s _))
  · exact changes_request _ _ (changes_admitEdit (changes_actWriteTable s _))
  · exact changes_request _ _ (changes_admitEdit fun _ => changes_actCommit s)
  · exact changes_request _ _ (changes_actDisarm s)
  · exact changes_request _ _ (changes_admitEdit fun _ => changes_actRevert s)
  · exact changes_request _ _ (changes_actReadBankInfo s _)
  · exact changes_request _ _ (changes_actProbe s _)
  · exact changes_request _ _ (changes_actProbeRead s)
  · exact changes_request _ _ (changes_admitProfile (changes_actProfileLoad s _))
  · exact changes_request _ _ (changes_admitProfile (changes_actProfileStore s _))
  · exact changes_request _ _ (changes_admitProfile (changes_actProfileErase s _))
  · exact changes_request _ _ (changes_admitProfile (changes_actProfileSetBoot s _))
  · exact changes_request _ _ (changes_actProfileList s)
  · exact changes_refuse s _

theorem changes_flagLinkDiscard (s : State) : Changes s s.flagLinkDiscard := (Change.flags s _).changes

theorem changes_completeFrame (f : Frame) (env : Env) (s : State) : Changes s (completeFrame f env s) := by
  unfold completeFrame
  rcases s.submit_cases f (handleFrame f env) with ⟨_, e⟩ | ⟨_, _, _, e⟩ | ⟨_, _, _, _, e⟩
  · exact e ▸ (Change.link s _).changes.trans (changes_handleFrame f env _)
  · exact e ▸ (Change.link s _).changes
  · exact e ▸ (Change.link s _).changes.trans (changes_flagLinkDiscard _)

/-! ### The events -/

theorem changes_discardPartial (s : State) : Changes s s.discardPartial :=
  (Change.link s _).changes.trans (changes_flagLinkDiscard _)

theorem changes_receive (byte : Byte) (env : Env) (s : State) : Changes s (s.receive byte env) := by
  unfold State.receive
  split
  · split
    · exact (Change.link s _).changes
    · exact .refl
  · unfold State.headerDone
    dsimp only
    split
    · exact changes_completeFrame _ env s
    · split
      · exact (Change.link s _).changes
      · exact changes_discardPartial s
  · exact (Change.link s _).changes
  · split
    · exact changes_completeFrame _ env s
    · exact (Change.link s _).changes

theorem changes_receiveError (e : ReceiveError) (s : State) : Changes s (s.receiveError e) := by
  unfold State.receiveError
  split
  · exact .refl
  · exact changes_discardPartial s
  · split
    · exact changes_discardPartial s
    · exact .refl
  · exact changes_discardPartial s
  · exact .refl

theorem changes_nextRequest (env : Env) (s : State) : Changes s (s.nextRequest env) := by
  unfold State.nextRequest
  split
  · exact (Change.link s _).changes
  · exact (Change.link s _).changes.trans (changes_handleFrame _ env _)

/-- With a new level of INPUT_VALID, an event of the input port, where it is not ignored (R20). -/
theorem changes_presentValid {s t : State} (valid ignored : Bool)
    (h : s.inputIgnored = false → ignored = false → Change (s.presentValid valid) t) :
    Changes s (if s.inputIgnored || ignored then s.presentValid valid else t) := by
  have hpin : Changes s (s.presentValid valid) := (Change.pins s _).changes
  cases hi : s.inputIgnored <;> cases ignored
  · exact hpin.tail (h hi rfl)
  all_goals exact hpin

theorem State.inputIgnored_eq_false {s : State} : s.inputIgnored = false ↔ s.mode.mode ≠ .standby := by
  simp [State.inputIgnored]

/-- Every command completes, and what it does is a chain of changes. -/
theorem exec_changes (c : Instr) (s : State) : ∃ t, exec c s = .next t ∧ Changes s t := by
  cases hc : c.frame? with
  | some f =>
    obtain ⟨env, h⟩ := exec_request c f hc
    exact ⟨_, h s, changes_completeFrame f env s⟩
  | none =>
    cases c with
    | resetN straps => exact ⟨_, rfl, (Change.restart s straps).changes⟩
    | wakeN env => exact ⟨_, rfl, (Change.wakeUp s env).changes⟩
    | inputValidFall =>
      exact ⟨_, rfl, changes_presentValid _ _ fun _ hn => .loseInput _ (of_decide_eq_false hn)⟩
    | inputFrameStart valid time env =>
      exact ⟨_, rfl, changes_presentValid _ _ fun hi _ =>
        .frameStart _ time env (State.inputIgnored_eq_false.1 hi)⟩
    | inputFrameEnd valid frame =>
      exact ⟨_, rfl, changes_presentValid _ _ fun hi _ =>
        .frameEnd _ frame (State.inputIgnored_eq_false.1 hi)⟩
    | inputLossGuardExpiry =>
      refine ⟨_, rfl, ?_⟩
      split
      · exact .refl
      · exact (Change.loseInput s ‹_›).changes
    | acquisitionTimerExpiry =>
      refine ⟨_, rfl, ?_⟩
      split
      · next h => exact (Change.acquireTimeout s (Option.isSome_iff_ne_none.1 h)).changes
      · exact .refl
    | holdTimerExpiry =>
      refine ⟨_, rfl, ?_⟩
      split
      · exact (Change.holdTimeout s).changes
      · exact .refl
    | presentationFrameStart env =>
      refine ⟨_, rfl, ?_⟩
      split
      · exact (Change.timerStart s env ‹_›).changes
      · exact .refl
    | copyBackCompletion =>
      refine ⟨_, rfl, ?_⟩
      split
      · exact (Change.copyBack s ‹_›).changes
      · exact .refl
    | loadCompletion good =>
      refine ⟨_, rfl, ?_⟩
      split
      · exact (Change.load s _ _ good ‹_›).changes
      · exact .refl
    | storeCompletion verified written =>
      refine ⟨_, rfl, ?_⟩
      split
      · exact (Change.store s _ _ _ verified written ‹_›).changes
      · exact .refl
    | eraseCompletion blank written =>
      refine ⟨_, rfl, ?_⟩
      split
      · exact (Change.erase s _ _ _ blank written ‹_›).changes
      · exact .refl
    | directoryCompletion written =>
      refine ⟨_, rfl, ?_⟩
      split
      · exact (Change.bootWrite s _ written ‹_›).changes
      · exact .refl
    | scanCompletion =>
      refine ⟨_, rfl, ?_⟩
      split
      · exact (Change.scan s ‹_›).changes
      · exact .refl
    | profileAreaExamined reading =>
      refine ⟨_, rfl, ?_⟩
      split
      · exact (Change.scanStep s reading ‹_›).changes
      · exact .refl
    | directoryWriteBegin => exact ⟨_, rfl, (Change.directoryBegin s).changes⟩
    | interByteGapExpiry =>
      refine ⟨_, rfl, ?_⟩
      split
      · exact .refl
      · exact changes_discardPartial s
      · exact changes_discardPartial s
    | frameReceiveError error => exact ⟨_, rfl, changes_receiveError error s⟩
    | rxdByteReceived byte env => exact ⟨_, rfl, changes_receive byte env s⟩
    | replyTransmitEnd env =>
      refine ⟨_, rfl, ?_⟩
      split
      · exact .refl
      · split
        · exact (Change.restart s env.straps).changes
        · exact changes_nextRequest env s
    | _ => cases hc

/-- A relation that every change keeps, and that does not look at the queue, is kept by every step. -/
theorem step_keeps {P : State → Prop} (pending : ∀ s q, P s → P { s with pending := q })
    (change : ∀ s t, Change s t → P s → P t) {s t : State} (h : P s) (hstep : step s = .next t) : P t := by
  unfold step at hstep
  split at hstep
  · cases hstep
    exact h
  · next c rest _ =>
    obtain ⟨u, hu, hchanges⟩ := exec_changes c { s with pending := rest }
    cases hu.symm.trans hstep
    exact hchanges.rec (pending s rest h) fun _ hc hP => change _ _ hc hP

/-- Settles O1: a step takes the front command by definition. -/
theorem stepRunsTheFrontCommand : Obligations.StepRunsTheFrontCommand :=
  fun _ _ _ => rfl

/-- No change touches the queue of waiting commands. -/
theorem Change.pending_eq {s t : State} (h : Change s t) : t.pending = s.pending := by
  cases h with
  | restart => rfl
  | _ => simp [State.startDimming, State.editScene]

theorem Changes.pending_eq {s t : State} (h : Changes s t) : t.pending = s.pending := by
  induction h with
  | refl => rfl
  | tail _ hchange ih => exact hchange.pending_eq.trans ih

/-- Settles O2: every command is a chain of changes, none of which touches the queue. -/
theorem everyCommandCompletesAndKeepsTheQueue : Obligations.EveryCommandCompletesAndKeepsTheQueue := by
  intro c s
  obtain ⟨t, hexec, hchanges⟩ := exec_changes c s
  exact ⟨t, hexec, hchanges.pending_eq⟩

end Sys2Proof.Machine
end

section
/-! PROOFS. Chapter 2, the master target (R39): its four conditions, and that every change takes it again
where one of them moves. -/

namespace Sys2Proof.Machine

theorem Channel.blacksOut_eq_true (c : Channel) :
    c.blacksOut = true ↔ c.controls.policy = .allBlack ∧ (c.state = .lost ∨ c.state = .parked) := by
  simp [Channel.blacksOut]

theorem State.pictureAllowed_eq_true (s : State) :
    s.pictureAllowed = true ↔
      s.acq.state = .locking ∨ s.acq.state = .locked ∨ s.acq.holdTimer ≠ none := by
  simp [State.pictureAllowed, AcqState.isLocked, Option.isSome_iff_ne_none, or_assoc]

theorem Four.forall_get {α : Type} (f : Four α) (p : α → Prop) :
    (∀ k, p (f.get k)) ↔ p f.o0 ∧ p f.o1 ∧ p f.o2 ∧ p f.o3 := by
  constructor
  · exact fun h => ⟨h 0, h 1, h 2, h 3⟩
  · rintro ⟨h0, h1, h2, h3⟩ k
    match k with
    | 0 => exact h0
    | 1 => exact h1
    | 2 => exact h2
    | 3 => exact h3

/-- R39: no channel holds the target at 0. -/
theorem State.forall_not_blacksOut (s : State) :
    (s.chans.o0.blacksOut || s.chans.o1.blacksOut || s.chans.o2.blacksOut || s.chans.o3.blacksOut) = false ↔
      ∀ k, (s.chans.get k).blacksOut = false := by
  rw [Four.forall_get s.chans fun c => c.blacksOut = false]
  simp [and_assoc]

/-- Settles O3: the target is chosen by one condition, the conjunction of the four. -/
theorem masterTargetHasFourConditions : Obligations.MasterTargetHasFourConditions := by
  intro s
  have hblack (k : Output) : (s.chans.get k).blacksOut = false ↔
      ((s.chans.get k).controls.policy = .allBlack →
        (s.chans.get k).state ≠ .lost ∧ (s.chans.get k).state ≠ .parked) := by
    rw [← Bool.not_eq_true, Channel.blacksOut_eq_true, not_and, not_or]
  have hall := s.forall_not_blacksOut
  simp only [hblack] at hall
  have hpicture := s.pictureAllowed_eq_true
  unfold State.targetOf
  split
  · next h =>
    simp only [Bool.and_eq_true, Bool.not_eq_true', Bool.or_eq_true, decide_eq_true_eq] at h
    obtain ⟨⟨⟨hallowed, hmute⟩, hmode⟩, hdark⟩ := h
    exact ⟨.inl rfl, fun _ => ⟨hpicture.1 hallowed, hmute, hmode, hall.1 hdark⟩, fun _ => rfl⟩
  · next h =>
    refine ⟨.inr rfl, nofun, ?_⟩
    rintro ⟨hallowed, hmute, hmode, hdark⟩
    refine absurd ?_ h
    simp only [Bool.and_eq_true, Bool.not_eq_true', Bool.or_eq_true, decide_eq_true_eq]
    exact ⟨⟨⟨hpicture.2 hallowed, hmute⟩, hmode⟩, hall.2 hdark⟩

/-! ### Every step keeps the target following (R39) -/

/-- The target follows once it is taken again. -/
theorem State.retarget_follows (s : State) : s.retarget.TargetFollows := rfl

/-- Where the conditions and the target stay, so does the relation. -/
theorem State.TargetFollows.of_eq {s t : State} (h : s.TargetFollows) (hacq : t.acq = s.acq)
    (hmaster : t.master = s.master) (hmode : t.mode = s.mode) (hchans : t.chans = s.chans) :
    t.TargetFollows := by
  simpa [State.TargetFollows, State.targetOf, State.pictureAllowed, hacq, hmaster, hmode, hchans] using h

theorem State.TargetFollows.probeServe {s : State} (h : s.TargetFollows) : s.probeServe.TargetFollows :=
  h.of_eq (by simp) (by simp) (by simp) (by simp)

/-- The target is taken again after the last taker of a start. -/
theorem State.deliver_follows (s : State) (align : Bool) (env : Env) :
    (s.deliver align env).TargetFollows := by
  unfold State.deliver
  dsimp only
  rcases List.eq_nil_or_concat (takeOrder env.order) with hnil | ⟨init, last, hlast⟩
  · exact absurd (hnil ▸ mem_takeOrder .bank env.order) List.not_mem_nil
  · rw [hlast, List.concat_eq_append, List.foldl_append]
    exact (State.retarget_follows _).probeServe

theorem State.timerStart_follows (s : State) (env : Env) : (s.timerStart env).TargetFollows :=
  State.deliver_follows _ _ _

theorem State.TargetFollows.wakeUp {s : State} (h : s.TargetFollows) (env : Env) :
    (s.wakeUp env).TargetFollows := by
  unfold State.wakeUp
  split
  · exact State.retarget_follows _
  · exact State.deliver_follows _ _ _
  · exact h

/-- R39: a change of a condition takes the target again; the others leave conditions and target. -/
theorem Change.keeps_targetFollows {s t : State} (hc : Change s t) (h : s.TargetFollows) :
    t.TargetFollows := by
  cases hc with
  | wakeUp env => exact h.wakeUp env
  | timerStart env _ => exact s.timerStart_follows env
  | restart => rfl
  | dim | loseInput | frameStart | frameEnd | acquireTimeout | holdTimeout | scan | inputControls
  | acceptInput | master | enable | disable | rejoin | outputControls => exact State.retarget_follows _
  | _ =>
    refine h.of_eq ?_ ?_ ?_ ?_
    all_goals simp [State.editScene]

/-- Settles O4: every change keeps the relation. -/
theorem everyStepKeepsTheTargetFollowing : Obligations.EveryStepKeepsTheTargetFollowing :=
  fun _ _ h hstep => step_keeps (P := State.TargetFollows) (fun _ _ h => h)
    (fun _ _ hc h => hc.keeps_targetFollows h) h hstep

end Sys2Proof.Machine
end

section
/-! PROOFS. Chapter 1, the work of the Input Acquisition Controller, said once: its operations are made of
changes of acquisition state and of registers beside them, and so leave most of the part alone. -/

namespace Sys2Proof.Machine

/-- The controller's work: registers other than state, controls and frame in progress, capture flags, and
last at most one entry to a state. -/
inductive AcqWork : State → State → Prop
  | refl {s : State} : AcqWork s s
  | move (s : State) (new : AcqState) (window : List FrameRecord) : AcqWork s (s.moveTo new window)
  | flags {s t : State} (f : CaptureFlags → CaptureFlags) : AcqWork (s.setFlags f) t → AcqWork s t
  | registers {s u t : State} : AcqWork u t →
      u = { s with acq := u.acq, timer := { s.timer with staged := u.timer.staged } } →
      u.acq.state = s.acq.state → u.acq.controls = s.acq.controls → u.acq.frame = s.acq.frame →
      AcqWork s t

theorem acqWork_moveTo (s : State) (new : AcqState) (w : List FrameRecord) : AcqWork s (s.moveTo new w) :=
  .move s new w

/-- The target is set first. -/
theorem AcqWork.after_target {s t : State} {target : Nat} (h : AcqWork (s.setTarget target) t) :
    AcqWork s t :=
  .registers h rfl rfl rfl rfl

theorem acqWork_formatCheck (s : State) : AcqWork s s.formatCheck := by
  unfold State.formatCheck
  dsimp only
  split
  · exact .refl
  · repeat' split
    all_goals exact AcqWork.after_target (.move _ _ _)

theorem acqWork_newCanvas (s : State) : AcqWork s s.newCanvas := by
  unfold State.newCanvas
  split
  · exact acqWork_formatCheck s
  · split
    · exact .refl
    · exact acqWork_moveTo _ _ _
  · split
    · exact .refl
    · exact acqWork_moveTo _ _ _
  · split
    · exact .refl
    · exact acqWork_moveTo _ _ _
  · exact .refl

theorem acqWork_recadence (s : State) : AcqWork s s.recadence := by
  unfold State.recadence
  dsimp only
  split
  · exact .refl
  · split
    all_goals exact AcqWork.after_target (.move _ _ _)

/-- R18: with the new controls in place, acting on them is work of the controller. -/
theorem acqWork_applyInputControls (s : State) (c : InputControls) :
    AcqWork ({ s with acq := { s.acq with
        controls := c
        acqTimer := limitChange s.acq.controls.limit c.limit s.acq.state s.acq.acqTimer } } : State)
      (s.applyInputControls c) := by
  unfold State.applyInputControls
  dsimp only
  split
  · exact .refl
  · exact .refl
  · split
    · exact acqWork_formatCheck _
    · exact .refl
  · split
    · exact acqWork_formatCheck _
    · exact .refl
  · split
    · exact acqWork_formatCheck _
    · exact .refl
  · split
    · exact acqWork_recadence _
    · exact .refl
  · split
    · exact acqWork_recadence _
    · exact .refl

theorem acqWork_takeRecord (s : State) (r : Option FrameRecord) : AcqWork s (s.takeRecord r) := by
  unfold State.takeRecord
  dsimp only
  split
  · split
    · exact AcqWork.registers .refl rfl rfl rfl rfl
    · exact AcqWork.registers (acqWork_formatCheck _) rfl rfl rfl rfl
  rotate_right
  · exact .refl
  all_goals
    split
    · exact acqWork_moveTo _ _ _
    · split
      · exact .refl
      · exact acqWork_moveTo _ _ _
    · exact .refl

theorem acqWork_pair (s : State) (start cadence : Nat) : AcqWork s (s.pair start cadence) := by
  unfold State.pair
  extract_lets
  split
  · split
    · exact AcqWork.registers (acqWork_moveTo _ _ _) rfl rfl rfl rfl
    · exact AcqWork.registers .refl rfl rfl rfl rfl
  · split
    · exact AcqWork.registers (acqWork_moveTo _ _ _) rfl rfl rfl rfl
    · exact AcqWork.registers .refl rfl rfl rfl rfl
  · exact AcqWork.registers .refl rfl rfl rfl rfl

theorem acqWork_cadencePoint (s : State) (time : Nat) : AcqWork s (s.cadencePoint time) := by
  unfold State.cadencePoint
  split
  · exact AcqWork.registers (acqWork_pair _ _ _) rfl rfl rfl rfl
  · exact AcqWork.registers .refl rfl rfl rfl rfl

theorem acqWork_positionZero (s : State) (time : Nat) : AcqWork s (s.positionZero time) := by
  unfold State.positionZero
  split
  · exact AcqWork.registers (acqWork_pair _ _ _) rfl rfl rfl rfl
  · exact AcqWork.registers .refl rfl rfl rfl rfl

theorem acqWork_countCadence (s : State) (time : Nat) : AcqWork s (s.countCadence time) := by
  unfold State.countCadence
  split
  · exact AcqWork.registers .refl rfl rfl rfl rfl
  · exact AcqWork.registers (acqWork_cadencePoint _ _) rfl rfl rfl rfl

theorem acqWork_acquisitionStart (s : State) : AcqWork s s.acquisitionStart := by
  unfold State.acquisitionStart
  split
  · exact acqWork_positionZero _ _
  · exact .refl

theorem acqWork_tearFrame (s : State) : AcqWork s s.tearFrame :=
  .flags _ (.move _ _ _)

/-- R4: input loss is work of the controller, and no frame in progress. -/
theorem loseInput_work (s : State) : ∃ t, AcqWork s t ∧ s.loseInput = t.setFrame none := by
  unfold State.loseInput
  dsimp only
  split
  · exact ⟨_, .flags _ (.flags _ (.move _ _ _)), rfl⟩
  · exact ⟨_, .flags _ (.move _ _ _), rfl⟩

/-! ### What the work leaves alone -/

/-- The registers of Chapters 1 and 2 that no work of the controller writes. -/
structure Steady where
  running   : Bool
  current   : Nat
  free      : Nat
  position  : Nat
  counter   : BitVec 32
  lastStart : Nat
  mem       : Three Picture
  number    : BitVec 40
  base      : Option (BitVec 40)
  slips     : Nat
  threshold : Nat
  armed     : Bool
  controls  : InputControls

def State.steady (s : State) : Steady :=
  ⟨s.timer.running, s.timer.current, s.timer.free, s.timer.position, s.timer.counter, s.timer.lastStart,
    s.frames.mem, s.frames.counter, s.frames.base, s.frames.slips, s.frames.threshold, s.frames.armed,
    s.acq.controls⟩

@[simp] theorem Acquisition.enter_controls (a : Acquisition) (new : AcqState) (w : List FrameRecord) :
    (a.enter new w).controls = a.controls := by
  cases new <;> rfl

@[simp] theorem Acquisition.enter_frame (a : Acquisition) (new : AcqState) (w : List FrameRecord) :
    (a.enter new w).frame = a.frame := by
  cases new <;> rfl

theorem State.leaveLocked_steady (s : State) : s.leaveLocked.steady = s.steady := by
  unfold State.leaveLocked State.abandonWrite
  dsimp only
  split <;> rfl

@[simp] theorem State.post_steady (s : State) (b : IndBody) : (s.post b).steady = s.steady := by
  simp [State.steady]

theorem State.moveTo_steady (s : State) (new : AcqState) (w : List FrameRecord) :
    (s.moveTo new w).steady = s.steady := by
  have hleft := s.leaveLocked_steady
  unfold State.moveTo
  dsimp only
  repeat' split
  all_goals simp_all [State.steady]

theorem AcqWork.steady_eq {s t : State} (h : AcqWork s t) : t.steady = s.steady := by
  induction h with
  | refl => rfl
  | move s new w => exact s.moveTo_steady new w
  | flags _ _ ih => exact ih
  | registers _ hu _ hcontrols _ ih =>
    rw [ih, hu]
    simp [State.steady, hcontrols]

/-- Two states with the same fields are one. -/
theorem State.eq_of_fields {s t : State} (hpins : s.pins = t.pins) (hacq : s.acq = t.acq)
    (hframes : s.frames = t.frames) (htimer : s.timer = t.timer) (hmaster : s.master = t.master)
    (hchans : s.chans = t.chans) (hbanks : s.banks = t.banks) (hprofiles : s.profiles = t.profiles)
    (hmode : s.mode = t.mode) (hlink : s.link = t.link) (hind : s.ind = t.ind) (hprobe : s.probe = t.probe)
    (hfree : s.free = t.free) (hpending : s.pending = t.pending) : s = t := by
  cases s
  cases t
  simp_all only

/-- Only four blocks take part in the work. -/
theorem AcqWork.eq {s t : State} (h : AcqWork s t) :
    t = { s with acq := t.acq, timer := t.timer, frames := t.frames, ind := t.ind } := by
  induction h with
  | refl => rfl
  | move s new w => apply State.eq_of_fields <;> simp
  | flags _ _ ih => exact ih
  | registers _ hu _ _ _ ih =>
    rw [ih, hu]

theorem AcqWork.mode_eq {s t : State} (h : AcqWork s t) : t.mode = s.mode := by
  have hmode := congrArg State.mode h.eq
  exact hmode

end Sys2Proof.Machine
end

section
/-! PROOFS. Chapter 8, standby (R167, R20, R29, R38, R41, R102, R126): the entry makes every block dark, and
every change that can come in STANDBY keeps it so. -/

namespace Sys2Proof.Machine

/-! ### The mode after an operation -/

theorem HomeMode.toMode_ne_standby (home : HomeMode) : home.toMode ≠ .standby := by
  cases home <;> decide

@[simp] theorem State.changeMode_mode (s : State) (m : PartMode) :
    (s.changeMode m).mode = { s.mode with mode := m } := by
  simp [State.changeMode]

@[simp] theorem State.countCadence_mode (s : State) (time : Nat) : (s.countCadence time).mode = s.mode :=
  (acqWork_countCadence s time).mode_eq

/-- R165: acting on the boot choice ends in SETUP or RUN. -/
theorem State.boot_mode (s : State) : s.boot.mode.mode = .setup ∨ s.boot.mode.mode = .run := by
  unfold State.boot
  split
  · simp
  · split <;> simp

/-! ### Dark blocks -/

/-- What holds of every item, and of the one put in place of item `k`, holds after. -/
theorem Four.forall_get_set {α : Type} {f : Four α} {p : α → Prop} {x : α} (k : Output)
    (h : ∀ j, p (f.get j)) (hx : p x) : ∀ j, p ((f.set k x).get j) := by
  intro j
  by_cases hj : j = k
  · subst hj
    rwa [Four.get_set_same]
  · rw [Four.get_set_other _ _ _ _ hj]
    exact h j

/-- The relation looks at these fields only. -/
theorem State.Dark.of_eq {s t : State} (h : s.Dark) (hrunning : t.timer.running = s.timer.running)
    (hlevel : t.master.level = s.master.level) (hacq : t.acq = s.acq)
    (hbufs : t.frames.bufs = s.frames.bufs) (hchans : ∀ k, (t.chans.get k).Dark)
    (hprobe : t.probe = s.probe) : t.Dark where
  stopped := hrunning.trans h.stopped
  level := hlevel.trans h.level
  input := hacq ▸ h.input
  frame := hacq ▸ h.frame
  acquire := hacq ▸ h.acquire
  hold := hacq ▸ h.hold
  buffers := hbufs.trans h.buffers
  chans := hchans
  probe := hprobe ▸ h.probe

theorem State.StandbyDark.of_eq {s t : State} (h : s.StandbyDark) (hmode : t.mode.mode = s.mode.mode)
    (hrunning : t.timer.running = s.timer.running) (hlevel : t.master.level = s.master.level)
    (hacq : t.acq = s.acq) (hbufs : t.frames.bufs = s.frames.bufs) (hchans : t.chans = s.chans)
    (hprobe : t.probe = s.probe) : t.StandbyDark :=
  fun hstandby => (h (hmode.symm.trans hstandby)).of_eq hrunning hlevel hacq hbufs
    (hchans ▸ (h (hmode.symm.trans hstandby)).chans) hprobe

theorem State.standbyDark_of_mode {s : State} (h : s.mode.mode ≠ .standby) : s.StandbyDark :=
  fun hstandby => absurd hstandby h

theorem State.StandbyDark.retarget {s : State} (h : s.StandbyDark) : s.retarget.StandbyDark :=
  h.of_eq rfl rfl rfl rfl rfl rfl rfl

/-- What STANDBY means to each block but for a probe that the start at the entry still serves. -/
def State.DarkButProbe (s : State) : Prop := ({ s with probe := .idle } : State).Dark

theorem State.DarkButProbe.of_eq {s t : State} (h : s.DarkButProbe)
    (hrunning : t.timer.running = s.timer.running) (hlevel : t.master.level = s.master.level)
    (hacq : t.acq = s.acq) (hbufs : t.frames.bufs = s.frames.bufs)
    (hchans : ∀ k, (t.chans.get k).Dark) : t.DarkButProbe :=
  State.Dark.of_eq h hrunning hlevel hacq hbufs hchans rfl

/-! ### Entry to STANDBY (R167) -/

/-- R20: the controller at the entry. -/
theorem State.standbyInput_acq (s : State) :
    s.standbyInput.acq.state = .noSignal ∧ s.standbyInput.acq.frame = none ∧
    s.standbyInput.acq.acqTimer = none ∧ s.standbyInput.acq.holdTimer = none := by
  simp [State.standbyInput]

theorem State.standbyInput_running (s : State) : s.standbyInput.timer.running = s.timer.running :=
  congrArg Steady.running (s.moveTo_steady .noSignal [])

/-- R126: each channel at the entry. -/
theorem State.chanStandby_dark (s : State) (k : Output) : ((s.chanStandby k).chans.get k).Dark := by
  unfold State.chanStandby
  dsimp only
  split
  · next h => exact ⟨.inl (by simpa using h), by simp⟩
  · next h => exact ⟨.inr (by simpa using h), by simp⟩
  · exact ⟨.inr (by simp [State.changeChan]), by simp [State.changeChan]⟩

theorem State.changeChan_other (s : State) {j k : Output} (c : Channel) (cause : Cause) (h : j ≠ k) :
    (s.changeChan k c cause).chans.get j = s.chans.get j := by
  unfold State.changeChan
  split <;> simp [Four.get_set_other _ _ _ _ h]

theorem State.chanStandby_other (s : State) {j k : Output} (h : j ≠ k) :
    (s.chanStandby k).chans.get j = s.chans.get j := by
  unfold State.chanStandby
  dsimp only
  split
  · simp [Four.get_set_other _ _ _ _ h]
  · simp [Four.get_set_other _ _ _ _ h]
  · exact s.changeChan_other _ _ h

/-- R167: at level 0, where dimming ends, the entry makes every block dark; a waiting probe is served at
the same start. -/
theorem State.enterStandby_dark (s : State) (hlevel : s.master.level = 0) :
    s.enterStandby.DarkButProbe where
  stopped := by simp [State.enterStandby, State.standbyInput_running]
  level := by simpa using hlevel
  input := by simp [State.enterStandby, State.standbyInput_acq]
  frame := by simp [State.enterStandby, State.standbyInput_acq]
  acquire := by simp [State.enterStandby, State.standbyInput_acq]
  hold := by simp [State.enterStandby, State.standbyInput_acq]
  buffers := by simp [State.enterStandby]
  chans := fun k => by
    unfold State.enterStandby
    dsimp only
    match k with
    | 3 => exact State.chanStandby_dark _ 3
    | 2 =>
      rw [State.chanStandby_other _ (by decide)]
      exact State.chanStandby_dark _ 2
    | 1 =>
      rw [State.chanStandby_other _ (by decide), State.chanStandby_other _ (by decide)]
      exact State.chanStandby_dark _ 1
    | 0 =>
      rw [State.chanStandby_other _ (by decide), State.chanStandby_other _ (by decide),
        State.chanStandby_other _ (by decide)]
      exact State.chanStandby_dark _ 0
  probe := nofun

/-! ### A presentation frame start (R41): the takers that come after the entry -/

/-- In STANDBY the blocks are dark but for a probe still to be served, and the master target is 0. -/
def State.Asleep (s : State) : Prop :=
  s.mode.mode = .standby → s.DarkButProbe ∧ s.master.target = 0

/-- R28: with every buffer EMPTY there is nothing to show. -/
theorem State.selectFrame_of_empty (s : State) (hstate : s.acq.state = .noSignal)
    (hbufs : s.frames.bufs = Three.all .empty) : s.selectFrame = s := by
  simp only [State.selectFrame, hstate, hbufs]
  rfl

/-- R9: outside the states that hold a format, a new canvas size changes nothing. -/
theorem State.newCanvas_of_noSignal (s : State) (h : s.acq.state = .noSignal) : s.newCanvas = s := by
  simp only [State.newCanvas, h]

theorem State.acquisitionStart_of_noSignal (s : State) (h : s.acq.state = .noSignal) :
    s.acquisitionStart = s := by
  simp [State.acquisitionStart, h, AcqState.isLocked]

theorem State.beginWrite_of_noSignal (s : State) (h : s.acq.state = .noSignal) : s.beginWrite = s := by
  simp [State.beginWrite, h, AcqState.isLocked]

@[simp] theorem Channel.countSample_state (good : Bool) (c : Channel) :
    (c.countSample good).state = c.state := by
  unfold Channel.countSample
  repeat' split
  all_goals rfl

theorem Channel.Dark.counted {c : Channel} (h : c.Dark) (good : Bool) (mode : ModeState) :
    ((c.countSample good).latch mode).Dark := by
  refine ⟨by simpa [Channel.latch] using h.state, ?_⟩
  rcases h.state with h | h <;> simp [Channel.latch, Channel.portFor, h]

theorem State.dropWrite_of_no_frame (s : State) (h : s.acq.frame = none) : s.dropWrite = s := by
  unfold State.dropWrite
  rw [h, Option.map_none, ← h]

/-- R9, R29: a swap in STANDBY leaves the blocks dark. -/
theorem State.DarkButProbe.canvasChanged {s : State} (h : s.DarkButProbe) : s.canvasChanged.DarkButProbe := by
  unfold State.canvasChanged
  rw [State.newCanvas_of_noSignal s h.input, State.dropWrite_of_no_frame s.emptyBuffers h.frame]
  exact h.of_eq rfl rfl rfl h.buffers.symm h.chans

theorem State.DarkButProbe.post {s : State} (h : s.DarkButProbe) (b : IndBody) : (s.post b).DarkButProbe :=
  h.of_eq (by simp) (by simp) (by simp) (by simp) (by simpa using h.chans)

theorem State.DarkButProbe.swap {s : State} (h : s.DarkButProbe) (hmode : s.mode.mode = .standby) : s.swap.DarkButProbe := by
  have hswapped : ({ s with banks := s.banks.swapped } : State).DarkButProbe :=
    h.of_eq rfl rfl rfl rfl h.chans
  have hposted := hswapped.post (.bankSwapped s.banks.swapped.revision)
  unfold State.swap
  dsimp only
  split
  · rw [if_neg (by simp [hmode])]
    exact hposted.canvasChanged
  · rw [if_neg (by simp [hmode])]
    exact hposted

/-- R40: at level and target 0 the level stays, and a part that sleeps already does not fall asleep. -/
theorem State.masterStart_of_dark {s : State} (h : s.DarkButProbe) (hmode : s.mode.mode = .standby)
    (htarget : s.master.target = 0) : s.masterStart = s := by
  have hlevel : s.master.level = 0 := h.level
  have hnext : s.master.next = s.master.level := by simp [Master.next, hlevel, htarget]
  simp [State.masterStart, hnext, hmode]

/-- A taker in STANDBY leaves the blocks dark (R41, log 21). -/
theorem State.DarkButProbe.take {s : State} (h : s.DarkButProbe) (hmode : s.mode.mode = .standby)
    (htarget : s.master.target = 0) (align : Bool) (t : Taker) : (s.take align t).DarkButProbe := by
  cases t with
  | frameStore =>
    show s.selectFrame.DarkButProbe
    rwa [State.selectFrame_of_empty s h.input h.buffers]
  | channel k =>
    rw [State.take, State.channelStart, if_pos hmode]
    exact h.of_eq rfl rfl rfl rfl (Four.forall_get_set k h.chans ((h.chans k).counted _ _))
  | bank =>
    rw [State.take, State.bankStart]
    split
    · exact h.swap hmode
    · exact h
  | master =>
    show s.masterStart.DarkButProbe
    rwa [State.masterStart_of_dark h hmode htarget]
  | acquisition =>
    rwa [State.take, State.acquisitionStart_of_noSignal s h.input, ite_self]
  | probe =>
    rw [State.take, State.probePost]
    split
    · exact h.post _
    · exact h
  | write =>
    rwa [State.take, State.beginWrite_of_noSignal s h.input, ite_self]

/-- Only the end of dimming makes the mode STANDBY. -/
theorem State.take_mode (s : State) (align : Bool) {t : Taker} (ht : t ≠ .master)
    (hmode : s.mode.mode ≠ .standby) : (s.take align t).mode.mode ≠ .standby := by
  cases t with
  | master => exact absurd rfl ht
  | bank =>
    rw [State.take, State.bankStart]
    unfold State.swap
    dsimp only
    repeat' split
    all_goals simp_all
  | acquisition | write =>
    unfold State.take
    dsimp only
    split <;> simpa
  | _ => simpa [State.take]

theorem State.targetOf_of_standby {s : State} (h : s.mode.mode = .standby) : s.targetOf = 0 := by
  simp [State.targetOf, h]

/-- R41: from the entry on, every taker of the start leaves the part asleep. -/
theorem State.Asleep.take {s : State} (h : s.Asleep) (align : Bool) (t : Taker) :
    (s.take align t).retarget.Asleep := by
  intro hafter
  refine ⟨?_, State.targetOf_of_standby hafter⟩
  suffices (s.take align t).DarkButProbe from this.of_eq rfl rfl rfl rfl this.chans
  by_cases hmode : s.mode.mode = .standby
  · obtain ⟨hdark, htarget⟩ := h hmode
    exact hdark.take hmode htarget align t
  · by_cases ht : t = .master
    · subst ht
      rw [State.take]
      rw [State.retarget_mode, State.take] at hafter
      unfold State.masterStart at hafter ⊢
      dsimp only at hafter ⊢
      split at hafter
      · next hend =>
        rw [if_pos hend]
        refine State.enterStandby_dark _ ?_
        exact hend.2
      · exact absurd hafter hmode
    · exact absurd hafter (s.take_mode align ht hmode)

/-- R102: a served probe no longer waits. -/
theorem State.probeServe_not_waiting (s : State) (k : Output) (u v : Nat) :
    s.probeServe.probe ≠ .waiting k u v := by
  unfold State.probeServe
  split
  · simp
  · next h => exact h k u v

theorem State.Asleep.probeServe {s : State} (h : s.Asleep) : s.probeServe.StandbyDark := by
  intro hmode
  obtain ⟨hdark, _⟩ := h (by simpa using hmode)
  have hserved := hdark.of_eq (t := s.probeServe) (by simp) (by simp) (by simp) (by simp)
    (by simpa using hdark.chans)
  exact { hserved with probe := s.probeServe_not_waiting }

/-- R41: a presentation frame start taken out of STANDBY ends out of it, or with every block dark. -/
theorem State.deliver_standbyDark {s : State} (h : s.mode.mode ≠ .standby) (align : Bool) (env : Env) :
    (s.deliver align env).StandbyDark := by
  unfold State.deliver
  refine State.Asleep.probeServe ?_
  refine List.foldlRecOn (motive := State.Asleep) (takeOrder env.order) _ ?_ ?_
  · exact fun hmode => absurd hmode h
  · exact fun _ hs t _ => hs.take align t

/-! ### Every step keeps STANDBY dark -/

theorem State.timerStart_standbyDark {s : State} (h : s.mode.mode ≠ .standby) (env : Env) :
    (s.timerStart env).StandbyDark :=
  State.deliver_standbyDark (by simpa using h) false env

/-- R166, R38: a wake leaves STANDBY before the start it makes. -/
theorem State.StandbyDark.wakeUp {s : State} (h : s.StandbyDark) (env : Env) :
    (s.wakeUp env).StandbyDark := by
  unfold State.wakeUp
  split
  · exact State.standbyDark_of_mode (by simpa using HomeMode.toMode_ne_standby _)
  · exact State.deliver_standbyDark (by simpa using HomeMode.toMode_ne_standby _) false env
  · exact h

theorem State.lockedStart_standbyDark {s : State} (h : s.mode.mode ≠ .standby) (time : Nat) (env : Env) :
    (s.lockedStart time env).StandbyDark := by
  unfold State.lockedStart
  dsimp only
  split
  · refine State.deliver_standbyDark ?_ true env
    exact h
  · exact State.standbyDark_of_mode (by simpa using h)

/-- R20: an input frame start out of STANDBY enters it only by the start at an alignment point. -/
theorem State.inputStart_standbyDark {s : State} (h : s.mode.mode ≠ .standby) (time : Nat) (env : Env) :
    (s.inputStart time env).StandbyDark := by
  have hguard : (s.guardBefore time).mode.mode ≠ .standby := by simpa using h
  unfold State.inputStart
  dsimp only
  split
  · exact State.standbyDark_of_mode (by simpa using h)
  · split
    · exact State.standbyDark_of_mode (by simpa using h)
    · exact State.lockedStart_standbyDark hguard time env
  · split
    · exact State.standbyDark_of_mode (by simpa using h)
    · exact State.lockedStart_standbyDark hguard time env
  · exact State.standbyDark_of_mode (by simpa using h)

/-- R15, R18: with the input in NO_SIGNAL, new controls are set and no timer starts. -/
theorem State.applyInputControls_of_noSignal {s : State} (h : s.acq.state = .noSignal)
    (htimer : s.acq.acqTimer = none) (c : InputControls) :
    s.applyInputControls c = { s with acq := { s.acq with controls := c, acqTimer := none } } := by
  simp [State.applyInputControls, h, htimer, limitChange]

/-- R112, R113: a channel that is out of use or ACQUIRING is enabled or disabled to the other. -/
theorem Channel.Dark.changed {c : Channel} (h : c.Dark) {new : ChanState}
    (hnew : new = .disabled ∨ new = .acquiring) :
    ({ c with state := new, goodRun := 0, badRun := 0 } : Channel).Dark :=
  ⟨hnew, h.port⟩

theorem State.changeChan_same (s : State) (k : Output) (c : Channel) (cause : Cause) :
    (s.changeChan k c cause).chans.get k = { c with goodRun := 0, badRun := 0 } := by
  unfold State.changeChan
  split <;> simp

theorem State.Dark.changeChan {s : State} (h : s.Dark) (k : Output) {new : ChanState}
    (hnew : new = .disabled ∨ new = .acquiring) (cause : Cause) :
    (s.changeChan k { s.chan k with state := new } cause).Dark := by
  refine h.of_eq (by simp) (by simp) (by simp) (by simp) (fun j => ?_) (by simp)
  by_cases hj : j = k
  · subst hj
    rw [State.changeChan_same]
    exact (h.chans j).changed hnew
  · rw [State.changeChan_other _ _ _ hj]
    exact h.chans j

theorem State.Dark.enableChan {s : State} (h : s.Dark) (k : Output) : (s.enableChan k).Dark := by
  rcases (h.chans k).state with hs | hs
  · have hs : (s.chan k).state = .disabled := hs
    simpa only [State.enableChan, hs] using h.changeChan k (.inr rfl) _
  · have hs : (s.chan k).state = .acquiring := hs
    simpa only [State.enableChan, hs] using h

theorem State.Dark.disableChan {s : State} (h : s.Dark) (k : Output) : (s.disableChan k).Dark := by
  rcases (h.chans k).state with hs | hs
  · have hs : (s.chan k).state = .disabled := hs
    simpa only [State.disableChan, hs] using h
  · have hs : (s.chan k).state = .acquiring := hs
    simpa only [State.disableChan, hs] using h.changeChan k (.inl rfl) _

/-- The relation is about STANDBY: a change that keeps the mode keeps it where it keeps the blocks dark. -/
theorem State.StandbyDark.of_dark {s t : State} (h : s.StandbyDark) (hmode : t.mode.mode = s.mode.mode)
    (hdark : s.Dark → t.Dark) : t.StandbyDark :=
  fun hstandby => hdark (h (hmode.symm.trans hstandby))

/-- Every change keeps STANDBY dark: the input port is ignored in it, the timer stopped, and nothing but
the controls of channels and input moves. -/
theorem Change.keeps_standbyDark {s t : State} (hc : Change s t) (h : s.StandbyDark) : t.StandbyDark := by
  cases hc with
  | restart => exact State.standbyDark_of_mode (show PartMode.startup ≠ .standby by decide)
  | wakeUp env => exact h.wakeUp env
  | dim => exact State.standbyDark_of_mode (by simp [State.startDimming])
  | loseInput hstate =>
    exact h.of_dark (by simp) fun hdark => absurd hdark.input hstate
  | frameStart time env hmode => exact (State.inputStart_standbyDark hmode time env).retarget
  | frameEnd frame hmode => exact State.standbyDark_of_mode (by simpa using hmode)
  | acquireTimeout htimer => exact h.of_dark (by simp) fun hdark => absurd hdark.acquire htimer
  | holdTimeout => exact h.of_dark rfl fun hdark => { hdark with hold := rfl }
  | timerStart env hrunning =>
    refine State.timerStart_standbyDark (fun hmode => ?_) env
    exact absurd ((h hmode).stopped.symm.trans hrunning) (by decide)
  | scan =>
    refine State.standbyDark_of_mode ?_
    have hmode := State.boot_mode (s.scanRest.onProfiles (ProfileStore.setCtl .idle))
    rcases hmode with hmode | hmode
    all_goals simp [State.finishScan, hmode]
  | inputControls c =>
    refine h.of_dark (by simp) fun hdark => ?_
    rw [State.applyInputControls_of_noSignal hdark.input hdark.acquire]
    exact { hdark with acquire := rfl }
  | acceptInput hstate =>
    exact h.of_dark (by simp) fun hdark => absurd (hdark.input.symm.trans hstate) (by decide)
  | enable k => exact (h.of_dark (by simp) fun hdark => hdark.enableChan k).retarget
  | disable k => exact (h.of_dark (by simp) fun hdark => hdark.disableChan k).retarget
  | rejoin k hparked =>
    refine h.of_dark (by simp) fun hdark => ?_
    rcases (hdark.chans k).state with hs | hs
    all_goals exact absurd (hs.symm.trans hparked) (by decide)
  | outputControls k c =>
    refine h.of_dark rfl fun hdark => ?_
    exact hdark.of_eq rfl rfl rfl rfl
      (Four.forall_get_set k hdark.chans ⟨(hdark.chans k).state, (hdark.chans k).port⟩) rfl
  | probe p hmode => exact State.standbyDark_of_mode hmode
  | freePeriod p staged | master mute step | counters | threshold v =>
    exact h.of_eq rfl rfl rfl rfl rfl rfl rfl
  | _ =>
    refine h.of_eq ?_ ?_ ?_ ?_ ?_ ?_ ?_
    all_goals simp [State.editScene]

/-- Settles O7: every change keeps the relation. -/
theorem everyStepKeepsStandbyDark : Obligations.EveryStepKeepsStandbyDark :=
  fun _ _ h hstep => step_keeps (P := State.StandbyDark) (fun _ _ h => h.of_eq rfl rfl rfl rfl rfl rfl rfl)
    (fun _ _ hc h => hc.keeps_standbyDark h) h hstep

end Sys2Proof.Machine
end

section
/-! PROOFS. Chapter 1, a change of acquisition state as an equation (R2, R3, R11, R36): out of the locked
states with the actions on leaving them, and into them. -/

namespace Sys2Proof.Machine

theorem AcqState.isLocked_eq_true (a : AcqState) : a.isLocked = true ↔ a = .locking ∨ a = .locked := by
  simp [AcqState.isLocked]

theorem InFrame.dropped_eq {f : InFrame} (h : f.write = none) : ({ f with write := none } : InFrame) = f := by
  cases f
  simp_all

/-- A frame in progress that is not written is as it was without its write. -/
theorem State.frame_dropped {s : State} (h : s.writing? = none) :
    (s.acq.frame.map fun f => ({ f with write := none } : InFrame)) = s.acq.frame := by
  cases hframe : s.acq.frame with
  | none => rfl
  | some f => simp_all [State.writing?, InFrame.dropped_eq]

/-- R3: leaving the locked states. -/
theorem State.leaveLocked_eq (s : State) (h : s.acq.state.isLocked = true) :
    s.leaveLocked = Spec.leaving s := by
  rw [Spec.leaving, if_pos ((AcqState.isLocked_eq_true _).1 h)]
  unfold State.leaveLocked State.abandonWrite
  cases hwrite : s.writing? with
  | none =>
    have hbind : s.acq.frame.bind InFrame.write = none := hwrite
    simp only [hbind, s.frame_dropped hwrite]
  | some w =>
    have hbind : s.acq.frame.bind InFrame.write = some w := hwrite
    simp only [hbind]
    rfl

theorem Spec.leaving_of_unlocked {s : State} (h : s.acq.state.isLocked = false) : Spec.leaving s = s := by
  refine if_neg fun hlocked => ?_
  rw [(AcqState.isLocked_eq_true _).2 hlocked] at h
  contradiction

/-- What the actions on leaving do not touch. -/
theorem Spec.leaving_rest (s : State) :
    (Spec.leaving s).pins = s.pins ∧ (Spec.leaving s).master = s.master ∧
    (Spec.leaving s).chans = s.chans ∧ (Spec.leaving s).banks = s.banks ∧
    (Spec.leaving s).profiles = s.profiles ∧ (Spec.leaving s).mode = s.mode ∧
    (Spec.leaving s).link = s.link ∧ (Spec.leaving s).ind = s.ind ∧
    (Spec.leaving s).probe = s.probe ∧ (Spec.leaving s).free = s.free ∧
    (Spec.leaving s).pending = s.pending ∧ (Spec.leaving s).timer.counter = s.timer.counter ∧
    (Spec.leaving s).acq.state = s.acq.state ∧ (Spec.leaving s).acq.measured = s.acq.measured ∧
    (Spec.leaving s).acq.controls = s.acq.controls := by
  unfold Spec.leaving
  split <;> simp

/-- R2: NO_SIGNAL and MEASURING report no format, the others the measured one. -/
theorem Acquisition.enter_format (a : Acquisition) (new : AcqState) (w : List FrameRecord) :
    (a.enter new w).format =
      if new = .noSignal ∨ new = .measuring then ⟨0, 0, 0⟩ else a.measured.getD ⟨0, 0, 0⟩ := by
  cases new <;> simp [Acquisition.enter, Acquisition.format]

/-- R2: INPUT_STATE is posted where the state name changes. -/
def Indications.movedTo (new : AcqState) (s : State) : Indications :=
  if new = s.acq.state then s.ind
  else s.ind.posted (.inputState new
    (if new = .noSignal ∨ new = .measuring then ⟨0, 0, 0⟩ else s.acq.measured.getD ⟨0, 0, 0⟩))
    s.timer.counter

/-- R3, R2: an entry to a state outside the locked ones. -/
theorem State.moveTo_out (s : State) {new : AcqState} (w : List FrameRecord)
    (hnew : new.isLocked = false) :
    s.moveTo new w = { Spec.leaving s with
      acq := (Spec.leaving s).acq.enter new w, ind := Indications.movedTo new s } := by
  have hlocking : new ≠ .locking := fun e => by simp [e, AcqState.isLocked] at hnew
  have hleft : (if (s.acq.state.isLocked && !new.isLocked) = true then s.leaveLocked else s) =
      Spec.leaving s := by
    cases hold : s.acq.state.isLocked with
    | true => simpa [hnew] using s.leaveLocked_eq hold
    | false => simpa [hnew] using (Spec.leaving_of_unlocked hold).symm
  obtain ⟨_, _, _, _, _, _, _, hind, _, _, _, hcounter, _, hmeasured, _⟩ := Spec.leaving_rest s
  unfold State.moveTo Indications.movedTo
  dsimp only
  rw [hleft]
  simp only [hlocking, decide_false, Bool.false_and, Bool.false_eq_true, if_false]
  split
  · rw [← hind]
  · rw [State.post_eq, Acquisition.enter_format, hmeasured]
    simp only [hcounter, hind]

/-- R11, R36, R2: an entry to a locked state. -/
theorem State.moveTo_in (s : State) {new : AcqState} (w : List FrameRecord) (hnew : new.isLocked = true) :
    s.moveTo new w = { s with
      acq := s.acq.enter new w
      timer := { s.timer with
        mode := if new = .locking ∧ s.acq.state.isLocked = false then .follow else s.timer.mode }
      ind := Indications.movedTo new s } := by
  have hformat := s.acq.enter_format new w
  have hstays : (if (s.acq.state.isLocked && !new.isLocked) = true then s.leaveLocked else s) = s := by
    simp [hnew]
  unfold State.moveTo Indications.movedTo
  dsimp only
  rw [hstays]
  by_cases hfollow : new = .locking ∧ s.acq.state.isLocked = false
  · obtain ⟨rfl, hunlocked⟩ := hfollow
    have hmoved : AcqState.locking ≠ s.acq.state := fun e => by simp [← e, AcqState.isLocked] at hunlocked
    simp only [hunlocked, hmoved, State.post_eq, hformat, decide_true, Bool.not_false, Bool.and_self,
      if_true, if_false, and_self]
  · have hkeeps : (decide (new = .locking) && !s.acq.state.isLocked) = false := by
      simpa [-not_and, not_and, Bool.not_eq_false] using hfollow
    simp only [hkeeps, Bool.false_eq_true, if_false, if_neg hfollow]
    split
    · rfl
    · rw [State.post_eq, hformat]

/-- R2: what a change of state posts. -/
theorem State.moveTo_ind (s : State) (new : AcqState) (w : List FrameRecord) :
    (s.moveTo new w).ind = Indications.movedTo new s := by
  cases hnew : new.isLocked with
  | true => rw [s.moveTo_in w hnew]
  | false => rw [s.moveTo_out w hnew]

end Sys2Proof.Machine
end

section
/-! PROOFS. Chapter 6, the work of one channel as functions of its record (R105 to R109): the sample, the
presence, and the record after a presentation frame start. -/

namespace Sys2Proof.Machine

theorem Four.set_set {α : Type} (f : Four α) (k : Output) (x y : α) : (f.set k x).set k y = f.set k y := by
  match k with
  | 0 => rfl
  | 1 => rfl
  | 2 => rfl
  | 3 => rfl

theorem Four.set_get {α : Type} (f : Four α) (k : Output) : f.set k (f.get k) = f := by
  match k with
  | 0 => rfl
  | 1 => rfl
  | 2 => rfl
  | 3 => rfl

theorem State.changeChan_chans (s : State) (k : Output) (c : Channel) (cause : Cause) :
    (s.changeChan k c cause).chans = s.chans.set k { c with goodRun := 0, badRun := 0 } := by
  unfold State.changeChan
  split <;> simp

/-- R105 steps 1 and 2: the record after a sample. -/
def Channel.sampled (good : Bool) (c : Channel) : Channel :=
  match (c.countSample good).sampleChange good with
  | none => c.countSample good
  | some (st, _) => { c.countSample good with state := st, goodRun := 0, badRun := 0 }

theorem State.chanSample_chans (s : State) (k : Output) (good : Bool) :
    (s.chanSample k good).chans = s.chans.set k ((s.chan k).sampled good) := by
  unfold State.chanSample Channel.sampled
  dsimp only
  cases ((s.chan k).countSample good).sampleChange good with
  | none => rfl
  | some change => rw [State.changeChan_chans]

/-- R105 steps 3 and 4: the record after the presence has moved. -/
def Channel.faded (c : Channel) : Channel :=
  if c.state = .retiring ∧ c.nextPresence = 0 then
    { c with presence := c.nextPresence, state := .disabled, goodRun := 0, badRun := 0 }
  else { c with presence := c.nextPresence }

theorem State.chanPresence_chans (s : State) (k : Output) :
    (s.chanPresence k).chans = s.chans.set k (s.chan k).faded := by
  unfold State.chanPresence Channel.faded
  dsimp only
  split
  · rw [State.changeChan_chans]
  · rfl

/-- R105: the record after a presentation frame start; in STANDBY, entered at the same start, the channel
only counts (R126, log 21). -/
def Channel.started (good : Bool) (mode : ModeState) (c : Channel) : Channel :=
  if mode.mode = .standby then (c.countSample good).latch mode else ((c.sampled good).faded).latch mode

theorem State.channelStart_chans (s : State) (k : Output) :
    (s.channelStart k).chans =
      s.chans.set k ((s.chan k).started (s.pins.linkGood.get k) s.mode) := by
  unfold State.channelStart Channel.started
  dsimp only
  split
  · rfl
  · simp [State.chan, State.chanPresence_chans, State.chanSample_chans, Four.set_set]

/-- A sample never leads to RETIRING. -/
theorem Channel.sampleChange_ne_retiring {good : Bool} {c : Channel} {st : ChanState} {cause : Cause}
    (h : c.sampleChange good = some (st, cause)) : st ≠ .retiring := by
  rintro rfl
  unfold Channel.sampleChange at h
  repeat' split at h
  all_goals simp at h

/-- R126: the record at the entry to standby. -/
def Channel.asleep (c : Channel) : Channel :=
  match c.state with
  | .disabled => { c with framePresence := 0, port := .code0 }
  | _ => { c with
      state := .acquiring, presence := 0, goodRun := 0, badRun := 0, framePresence := 0, port := .code0 }

theorem State.chanStandby_chans (s : State) (k : Output) :
    (s.chanStandby k).chans = s.chans.set k (s.chan k).asleep := by
  unfold State.chanStandby Channel.asleep
  dsimp only
  cases hstate : (s.chan k).state <;> simp [State.changeChan_chans]

/-! ### The boot choice (R165) -/

/-- R165: no boot choice, an EMPTY profile, a SOUND one, an UNSOUND one. -/
theorem State.boot_cases (s : State) :
    (s.profiles.boot = none ∧ s.boot = (s.profileDone none .boot .ok).changeMode .setup) ∨
    (∃ n, s.profiles.boot = some n ∧ (s.profiles.entry n).sound? = none ∧
      s.boot = (((s.onProfiles fun p => { p with boot := none }).profileDone (some n) .boot
        .failed).flagProfileBad).changeMode .setup) ∨
    (∃ n p, s.profiles.boot = some n ∧ (s.profiles.entry n).sound? = some true ∧
      (s.profiles.area n).profile? = some p ∧
      s.boot = ((s.profileDone (some n) .boot .ok).bootLoad p).changeMode .run) ∨
    (∃ n sound, s.profiles.boot = some n ∧ (s.profiles.entry n).sound? = some sound ∧
      (sound = false ∨ (s.profiles.area n).profile? = none) ∧
      s.boot = ((s.profileDone (some n) .boot .badCheck).flagProfileBad).changeMode .setup) := by
  unfold State.boot
  cases hboot : s.profiles.boot with
  | none => exact .inl ⟨rfl, rfl⟩
  | some n =>
    dsimp only
    refine .inr ?_
    cases hsound : (s.profiles.entry n).sound? with
    | none => exact .inl ⟨n, rfl, hsound, rfl⟩
    | some sound =>
      cases sound with
      | false => exact .inr (.inr ⟨n, false, rfl, hsound, .inl rfl, rfl⟩)
      | true =>
        cases hprofile : (s.profiles.area n).profile? with
        | none => exact .inr (.inr ⟨n, true, rfl, hsound, .inr hprofile, rfl⟩)
        | some p => exact .inr (.inl ⟨n, p, rfl, hsound, hprofile, rfl⟩)

end Sys2Proof.Machine
end

section
/-! PROOFS. Chapter 10, the indication queue (R184): what an operation posts, as a list of records, and that
posting and capturing flags keeps the queue sound. -/

namespace Sys2Proof.Machine

/-! ### Records posted one after another -/

/-- From `i` to `j` by posting `bodies` in turn with one frame stamp; capture flags are set between. -/
inductive Indications.Grows (stamp : BitVec 32) : List IndBody → Indications → Indications → Prop
  | nil {i : Indications} : Grows stamp [] i i
  | flags {bodies : List IndBody} {i j : Indications} (f : CaptureFlags → CaptureFlags) :
      Grows stamp bodies i j → Grows stamp bodies i { j with flags := f j.flags }
  | post {bodies : List IndBody} {i j : Indications} (b : IndBody) :
      Grows stamp bodies i j → Grows stamp (bodies ++ [b]) i (j.posted b stamp)

theorem Indications.Grows.trans {stamp : BitVec 32} {bs cs : List IndBody} {i j k : Indications}
    (h : Indications.Grows stamp bs i j) (h' : Indications.Grows stamp cs j k) :
    Indications.Grows stamp (bs ++ cs) i k := by
  induction h' with
  | nil => simpa using h
  | flags f _ ih => exact (ih h).flags f
  | post b _ ih =>
    rw [← List.append_assoc]
    exact (ih h).post b

/-- R184, R185: at most 32 records wait, and ATTN_N is low exactly while one does. -/
def Indications.Sound (i : Indications) : Prop :=
  i.queue.length ≤ Config.queueRoom ∧ i.attnN = i.queue.isEmpty

theorem State.queueSound_iff (s : State) : s.QueueSound ↔ s.ind.Sound := Iff.rfl

theorem Indications.Sound.posted {i : Indications} (h : i.Sound) (b : IndBody) (stamp : BitVec 32) :
    (i.posted b stamp).Sound := by
  unfold Indications.posted
  split
  · exact h
  · split
    · next hroom =>
      refine ⟨?_, by simp⟩
      simp [Config.queueRoom]
      omega
    · exact h

theorem Indications.Grows.sound {stamp : BitVec 32} {bs : List IndBody} {i j : Indications}
    (h : Indications.Grows stamp bs i j) (hi : i.Sound) : j.Sound := by
  induction h with
  | nil => exact hi
  | flags _ _ ih => exact ih hi
  | post b _ ih => exact (ih hi).posted b _

/-- From `s` to `t` the records `bodies` are posted, with the frame stamp of both. -/
def State.Posted (bodies : List IndBody) (s t : State) : Prop :=
  Indications.Grows s.timer.counter bodies s.ind t.ind ∧ t.timer.counter = s.timer.counter

theorem State.Posted.of_eq {s t : State} (hind : t.ind = s.ind)
    (hcounter : t.timer.counter = s.timer.counter) : State.Posted [] s t :=
  ⟨hind ▸ .nil, hcounter⟩

theorem State.Posted.trans {s t u : State} {bs cs : List IndBody} (h : State.Posted bs s t)
    (h' : State.Posted cs t u) : State.Posted (bs ++ cs) s u :=
  ⟨h.1.trans (h.2 ▸ h'.1), h'.2.trans h.2⟩

/-- First, capture flags are set. -/
theorem State.Posted.after_flags {s t u : State} {bs : List IndBody} (h : State.Posted bs t u)
    {f : CaptureFlags → CaptureFlags} (hind : t.ind = { s.ind with flags := f s.ind.flags })
    (hcounter : t.timer.counter = s.timer.counter) : State.Posted bs s u :=
  State.Posted.trans (bs := []) ⟨hind ▸ Indications.Grows.nil.flags f, hcounter⟩ h

/-- First, nothing is posted. -/
theorem State.Posted.after_eq {s t u : State} {bs : List IndBody} (h : State.Posted bs t u)
    (hind : t.ind = s.ind) (hcounter : t.timer.counter = s.timer.counter) : State.Posted bs s u :=
  State.Posted.trans (bs := []) (.of_eq hind hcounter) h

/-- Then, nothing is posted. -/
theorem State.Posted.then_eq {s t u : State} {bs : List IndBody} (h : State.Posted bs s t)
    (hind : u.ind = t.ind) (hcounter : u.timer.counter = t.timer.counter) : State.Posted bs s u := by
  simpa using h.trans (.of_eq hind hcounter)

theorem State.posted_post (s : State) (b : IndBody) : State.Posted [b] s (s.post b) :=
  ⟨by simpa using Indications.Grows.nil.post b, by simp⟩

theorem State.posted_setFlags (s : State) (f : CaptureFlags → CaptureFlags) :
    State.Posted [] s (s.setFlags f) :=
  ⟨Indications.Grows.nil.flags f, rfl⟩

/-- From `s` to `t` at most `n` records are posted, each of a kind that `kinds` names. -/
def State.Tells (n : Nat) (kinds : IndBody → Prop) (s t : State) : Prop :=
  ∃ bodies, State.Posted bodies s t ∧ bodies.length ≤ n ∧ ∀ b ∈ bodies, kinds b

section Tells

variable {n m : Nat} {p q : IndBody → Prop} {s t u : State}

theorem State.Posted.tells {bs : List IndBody} (h : State.Posted bs s t) :
    State.Tells bs.length (· ∈ bs) s t :=
  ⟨bs, h, Nat.le_refl _, fun _ hb => hb⟩

theorem State.Tells.mono (h : State.Tells n p s t) (hn : n ≤ m) (hp : ∀ b, p b → q b) :
    State.Tells m q s t :=
  have ⟨bs, hposted, hlength, hkinds⟩ := h
  ⟨bs, hposted, hlength.trans hn, fun b hb => hp b (hkinds b hb)⟩

theorem State.Tells.trans (h : State.Tells n p s t) (h' : State.Tells m p t u) :
    State.Tells (n + m) p s u := by
  obtain ⟨bs, hposted, hlength, hkinds⟩ := h
  obtain ⟨cs, hposted', hlength', hkinds'⟩ := h'
  refine ⟨bs ++ cs, hposted.trans hposted', ?_, ?_⟩
  · rw [List.length_append]
    omega
  · simpa [or_imp, forall_and] using ⟨hkinds, hkinds'⟩

theorem State.tells_of_eq (hind : t.ind = s.ind) (hcounter : t.timer.counter = s.timer.counter) :
    State.Tells n p s t :=
  ⟨[], .of_eq hind hcounter, Nat.zero_le _, by simp⟩

theorem State.Tells.sound (h : State.Tells n p s t) (hs : s.QueueSound) : t.QueueSound :=
  have ⟨_, hposted, _⟩ := h
  hposted.1.sound hs

/-- Then, nothing is posted. -/
theorem State.Tells.then_eq (h : State.Tells n p s t) (hind : u.ind = t.ind)
    (hcounter : u.timer.counter = t.timer.counter) : State.Tells n p s u := by
  simpa using h.trans (State.tells_of_eq (n := 0) hind hcounter)

/-- First, nothing is posted. -/
theorem State.Tells.after_eq (h : State.Tells n p t u) (hind : t.ind = s.ind)
    (hcounter : t.timer.counter = s.timer.counter) : State.Tells n p s u := by
  simpa using (State.tells_of_eq (n := 0) hind hcounter).trans h

theorem State.tells_post (s : State) {b : IndBody} (hb : p b) : State.Tells 1 p s (s.post b) :=
  ⟨[b], s.posted_post b, Nat.le_refl _, by simpa⟩

theorem State.tells_setFlags (s : State) (f : CaptureFlags → CaptureFlags) :
    State.Tells 0 p s (s.setFlags f) :=
  ⟨[], s.posted_setFlags f, Nat.le_refl _, by simp⟩

end Tells

/-! ### What each operation posts -/

/-- The records of the Input Acquisition Controller's state. -/
def IndBody.IsInputState (b : IndBody) : Prop := ∃ st format, b = .inputState st format

def IndBody.IsOutputState (k : Output) (b : IndBody) : Prop := ∃ st cause, b = .outputState k st cause

theorem State.tells_moveTo (s : State) (new : AcqState) (w : List FrameRecord) :
    State.Tells 1 IndBody.IsInputState s (s.moveTo new w) := by
  have hcounter : (s.moveTo new w).timer.counter = s.timer.counter :=
    congrArg Steady.counter (s.moveTo_steady new w)
  have hind := s.moveTo_ind new w
  unfold Indications.movedTo at hind
  split at hind
  · exact State.tells_of_eq hind hcounter
  · exact ⟨_, ⟨hind ▸ Indications.Grows.nil.post _, hcounter⟩, Nat.le_refl _, by simp [IndBody.IsInputState]⟩

/-- R2: the controller's work posts at most INPUT_STATE. -/
theorem AcqWork.tells {s t : State} (h : AcqWork s t) : State.Tells 1 IndBody.IsInputState s t := by
  induction h with
  | refl => exact State.tells_of_eq rfl rfl
  | move s new w => exact s.tells_moveTo new w
  | flags f _ ih => simpa using (State.tells_setFlags _ f).trans ih
  | @registers s u _ _ hu _ _ _ ih =>
    have hind : u.ind = s.ind := by rw [hu]
    have hcounter : u.timer.counter = s.timer.counter := by rw [hu]
    exact ih.after_eq hind hcounter

theorem State.tells_standbyInput (s : State) :
    State.Tells 1 IndBody.IsInputState s s.standbyInput :=
  (s.tells_moveTo .noSignal []).then_eq rfl rfl

/-- R30, R31: a slip posts SLIP_THRESHOLD where it meets the armed threshold. -/
theorem State.posted_countSlip (s : State) :
    State.Posted (if s.frames.armed ∧ s.frames.threshold ≤ min 65535 (s.frames.slips + 1) then
      [.slipThreshold (min 65535 (s.frames.slips + 1))] else []) s s.countSlip := by
  have hflag := s.posted_setFlags fun f => { f with slip := true }
  unfold State.countSlip
  simp only [Bool.and_eq_true, decide_eq_true_eq, State.flagSlip_frame]
  split
  · exact (State.posted_post _ _).after_flags (f := fun f => { f with slip := true }) rfl rfl
  · exact hflag

/-- R104: a change of a channel's state. -/
theorem State.posted_changeChan (s : State) (k : Output) (c : Channel) (cause : Cause) :
    State.Posted [.outputState k c.state cause] s (s.changeChan k c cause) := by
  unfold State.changeChan
  dsimp only
  split
  · exact (State.posted_post _ _).after_flags
      (f := fun f => { f with outputLost := f.outputLost.set k true }) rfl rfl
  · exact (State.posted_post _ _).after_eq rfl rfl

/-- R163. -/
theorem State.posted_changeMode (s : State) (m : PartMode) :
    State.Posted [.modeChange m] s (s.changeMode m) :=
  (s.setMode m).posted_post (.modeChange m)

/-- R100. -/
theorem State.posted_probePost (s : State) :
    State.Posted (match s.probe with
      | .waiting k _ _ => [.probeReady k]
      | _ => []) s s.probePost := by
  unfold State.probePost
  cases hprobe : s.probe with
  | waiting k u v => exact s.posted_post (.probeReady k)
  | idle | ready => exact .of_eq rfl rfl

/-- R105 steps 1 and 2. -/
theorem State.posted_chanSample (s : State) (k : Output) (good : Bool) :
    State.Posted (match ((s.chan k).countSample good).sampleChange good with
      | none => []
      | some (st, cause) => [.outputState k st cause]) s (s.chanSample k good) := by
  unfold State.chanSample
  dsimp only
  cases ((s.chan k).countSample good).sampleChange good with
  | none => exact .of_eq rfl rfl
  | some change =>
    exact s.posted_changeChan k { (s.chan k).countSample good with state := change.1 } change.2

/-- R105 steps 3 and 4. -/
theorem State.posted_chanPresence (s : State) (k : Output) :
    State.Posted (if (s.chan k).state = .retiring ∧ (s.chan k).nextPresence = 0 then
      [.outputState k .disabled .rampDone] else []) s (s.chanPresence k) := by
  unfold State.chanPresence
  dsimp only
  split
  · exact s.posted_changeChan k { s.chan k with presence := (s.chan k).nextPresence, state := .disabled }
      .rampDone
  · exact .of_eq rfl rfl

/-- R104, R105: the records of a channel's work at a start, by its record. -/
def Channel.records (k : Output) (good : Bool) (c : Channel) : List IndBody :=
  (match (c.countSample good).sampleChange good with
    | none => []
    | some (st, cause) => [.outputState k st cause]) ++
  (if (c.sampled good).state = .retiring ∧ (c.sampled good).nextPresence = 0 then
    [.outputState k .disabled .rampDone] else [])

theorem State.posted_channelStart (s : State) (k : Output) (hmode : s.mode.mode ≠ .standby) :
    State.Posted ((s.chan k).records k (s.pins.linkGood.get k)) s (s.channelStart k) := by
  have hsample := s.posted_chanSample k (s.pins.linkGood.get k)
  have hpresence := (s.chanSample k (s.pins.linkGood.get k)).posted_chanPresence k
  have hsampled : (s.chanSample k (s.pins.linkGood.get k)).chan k =
      (s.chan k).sampled (s.pins.linkGood.get k) := by
    simp [State.chan, State.chanSample_chans]
  rw [hsampled] at hpresence
  rw [State.channelStart, if_neg hmode]
  exact (hsample.trans hpresence).then_eq rfl rfl

/-- At most one record, the channel's own OUTPUT_STATE: a sample that changes the state does not lead to
RETIRING, the one state that the presence ends. -/
theorem Channel.records_few (k : Output) (good : Bool) (c : Channel) :
    (c.records k good).length ≤ 1 ∧ ∀ b ∈ c.records k good, b.IsOutputState k := by
  unfold Channel.records
  cases hchange : (c.countSample good).sampleChange good with
  | none =>
    dsimp only
    split <;> simp [IndBody.IsOutputState]
  | some change =>
    have hstate : (c.sampled good).state = change.1 := by simp [Channel.sampled, hchange]
    rw [hstate, if_neg fun h => Channel.sampleChange_ne_retiring hchange h.1]
    simp [IndBody.IsOutputState]

theorem State.tells_channelStart (s : State) (k : Output) :
    State.Tells 1 (IndBody.IsOutputState k) s (s.channelStart k) := by
  by_cases hmode : s.mode.mode = .standby
  · rw [State.channelStart, if_pos hmode]
    exact State.tells_of_eq rfl rfl
  · have hfew := (s.chan k).records_few k (s.pins.linkGood.get k)
    exact ⟨_, s.posted_channelStart k hmode, hfew.1, hfew.2⟩

/-- R126. -/
theorem State.tells_chanStandby (s : State) (k : Output) :
    State.Tells 1 (IndBody.IsOutputState k) s (s.chanStandby k) := by
  unfold State.chanStandby
  dsimp only
  split
  · exact State.tells_of_eq rfl rfl
  · exact State.tells_of_eq rfl rfl
  · exact (State.posted_changeChan _ _ _ _).tells.mono (by simp) (by simp [IndBody.IsOutputState])

/-- R167, R20, R126: the entry to STANDBY: its MODE_CHANGE, and the records of input and channels. -/
theorem State.enterStandby_posted (s : State) : ∃ bodies,
    State.Posted (.modeChange .standby :: bodies) s s.enterStandby ∧ bodies.length ≤ 5 ∧
    ∀ b ∈ bodies, b.IsInputState ∨ ∃ k, b.IsOutputState k := by
  have houtput (u : State) (k : Output) : State.Tells 1
      (fun b => b.IsInputState ∨ ∃ k, b.IsOutputState k) u (u.chanStandby k) :=
    (u.tells_chanStandby k).mono (Nat.le_refl _) fun _ hb => .inr ⟨k, hb⟩
  have hmode := ({ s with mode := { s.mode with mode := .standby } } : State).posted_post
    (.modeChange .standby)
  have hinput (u : State) : State.Tells 1
      (fun b => b.IsInputState ∨ ∃ k, b.IsOutputState k) u u.standbyInput.emptyBuffers :=
    (u.tells_standbyInput.mono (Nat.le_refl _) fun _ hb => .inl hb).then_eq rfl rfl
  unfold State.enterStandby
  dsimp only
  obtain ⟨bodies, hposted, hlength, hkinds⟩ :=
    ((((hinput _).trans (houtput _ 0)).trans (houtput _ 1)).trans (houtput _ 2)).trans (houtput _ 3)
  exact ⟨bodies, State.Posted.trans (hmode.after_eq rfl rfl) (hposted.after_eq rfl rfl), hlength, hkinds⟩

theorem State.tells_canvasChanged (s : State) : State.Tells 1 IndBody.IsInputState s s.canvasChanged :=
  (acqWork_newCanvas s).tells.then_eq rfl rfl

/-- R142, R145: a swap: BANK_SWAPPED, the record of an input state moved by the new size, and out of SETUP
MODE_CHANGE. -/
theorem State.swap_posted (s : State) : ∃ bodies,
    State.Posted (.bankSwapped (s.banks.revision + 1) ::
      (bodies ++ if s.mode.mode = .setup then [.modeChange .run] else [])) s s.swap ∧
    bodies.length ≤ 1 ∧ ∀ b ∈ bodies, b.IsInputState := by
  have hswapped : State.Posted [.bankSwapped (s.banks.revision + 1)] s
      (({ s with banks := s.banks.swapped } : State).post (.bankSwapped s.banks.swapped.revision)) :=
    (State.posted_post { s with banks := s.banks.swapped } _).after_eq rfl rfl
  have hcanvas : State.Tells 1 IndBody.IsInputState _ _ :=
    (({ s with banks := s.banks.swapped } : State).post
      (.bankSwapped s.banks.swapped.revision)).tells_canvasChanged
  obtain ⟨bodies, hposted, hlength, hkinds⟩ := hcanvas
  have hmode (u : State) (hu : u.mode.mode = s.mode.mode) :
      State.Posted (if s.mode.mode = .setup then [.modeChange .run] else []) u
        (if u.mode.mode = .setup then u.changeMode .run else u) := by
    rw [hu]
    split
    · exact u.posted_changeMode .run
    · exact .of_eq rfl rfl
  unfold State.swap
  dsimp only
  cases s.active.scene.canvasDiffers s.pendingBank.scene with
  | true =>
    refine ⟨bodies, hswapped.trans (hposted.trans ?_), hlength, hkinds⟩
    exact hmode _ (by simp)
  | false =>
    refine ⟨[], hswapped.trans ?_, by simp, by simp⟩
    exact hmode _ (by simp)

/-- R30: the choice of the frame to show posts at most a slip's record. -/
theorem State.tells_selectFrame (s : State) :
    State.Tells 1 (fun b => ∃ n, b = .slipThreshold n) s s.selectFrame := by
  have hchoice (u : State) (b : Option BufNo) : State.Tells 0 (fun b => ∃ n, b = .slipThreshold n) u
      (u.changeShowing b) := State.tells_of_eq (by simp) (by simp)
  have hslip (u : State) : State.Tells 1 (fun b => ∃ n, b = .slipThreshold n) u u.countSlip := by
    refine u.posted_countSlip.tells.mono ?_ ?_
    all_goals split <;> simp
  unfold State.selectFrame State.showExpected
  dsimp only
  repeat' split
  · exact (hchoice s _).mono (by simp) fun _ hb => hb
  · exact (hchoice s _).trans (hslip _)
  · exact (hchoice s _).trans (hslip _)
  · exact (hchoice s _).mono (by simp) fun _ hb => hb

/-! ### A start and every step -/

/-- How many records a taker of a start posts at most. -/
def recordRoom : Taker → Nat
  | .frameStore => 1
  | .channel _ => 1
  | .bank => 3
  | .master => 6
  | .acquisition => 1
  | .probe => 1
  | .write => 0

theorem State.tells_take (s : State) (align : Bool) (t : Taker) :
    State.Tells (recordRoom t) (fun _ => True) s (s.take align t) := by
  cases t with
  | frameStore => exact s.tells_selectFrame.mono (Nat.le_refl _) fun _ _ => trivial
  | channel k => exact (s.tells_channelStart k).mono (Nat.le_refl _) fun _ _ => trivial
  | bank =>
    rw [State.take, State.bankStart]
    split
    · obtain ⟨bodies, hposted, hlength, _⟩ := s.swap_posted
      refine hposted.tells.mono ?_ fun _ _ => trivial
      simp only [recordRoom, List.length_cons, List.length_append]
      split <;> simp <;> omega
    · exact State.tells_of_eq rfl rfl
  | master =>
    rw [State.take, State.masterStart]
    dsimp only
    split
    · obtain ⟨bodies, hposted, hlength, _⟩ :=
        ({ s with master := { s.master with level := s.master.next } } : State).enterStandby_posted
      refine (hposted.after_eq rfl rfl).tells.mono ?_ fun _ _ => trivial
      exact Nat.succ_le_succ hlength
    · exact State.tells_of_eq rfl rfl
  | acquisition =>
    rw [State.take]
    split
    · exact State.tells_of_eq rfl rfl
    · exact (acqWork_acquisitionStart s).tells.mono (Nat.le_refl _) fun _ _ => trivial
  | probe =>
    refine s.posted_probePost.tells.mono ?_ fun _ _ => trivial
    split <;> simp [recordRoom]
  | write => 
    rw [State.take]
    split
    · exact State.tells_of_eq (by simp) (by simp)
    · exact State.tells_of_eq rfl rfl

theorem State.QueueSound.of_ind {s t : State} (h : s.QueueSound) (hind : t.ind = s.ind) : t.QueueSound := by
  rwa [State.queueSound_iff, hind]

theorem State.QueueSound.deliver {s : State} (h : s.QueueSound) (align : Bool) (env : Env) :
    (s.deliver align env).QueueSound := by
  unfold State.deliver
  refine State.QueueSound.of_ind (s := (takeOrder env.order).foldl
    (fun s t => (s.take align t).retarget) { s with pins := { s.pins with linkGood := env.link } }) ?_
    (by simp)
  refine List.foldlRecOn (motive := State.QueueSound) (takeOrder env.order) _ h ?_
  exact fun u hu t _ => ((u.tells_take align t).then_eq rfl rfl).sound hu

theorem State.QueueSound.acqWork {s t : State} (h : s.QueueSound) (hwork : AcqWork s t) : t.QueueSound :=
  hwork.tells.sound h

theorem State.QueueSound.post {s : State} (h : s.QueueSound) (b : IndBody) : (s.post b).QueueSound :=
  (s.posted_post b).tells.sound h

theorem State.QueueSound.setFlags {s : State} (h : s.QueueSound) (f : CaptureFlags → CaptureFlags) :
    (s.setFlags f).QueueSound :=
  (s.posted_setFlags f).tells.sound h

theorem State.QueueSound.changeMode {s : State} (h : s.QueueSound) (m : PartMode) :
    (s.changeMode m).QueueSound :=
  (s.posted_changeMode m).tells.sound h

theorem State.QueueSound.changeChan {s : State} (h : s.QueueSound) (k : Output) (c : Channel)
    (cause : Cause) : (s.changeChan k c cause).QueueSound :=
  (s.posted_changeChan k c cause).tells.sound h

theorem State.QueueSound.loseInput {s : State} (h : s.QueueSound) : s.loseInput.QueueSound := by
  obtain ⟨t, hwork, heq⟩ := loseInput_work s
  rw [heq]
  exact (h.acqWork hwork).of_ind rfl

theorem State.QueueSound.wakeUp {s : State} (h : s.QueueSound) (env : Env) : (s.wakeUp env).QueueSound := by
  unfold State.wakeUp
  split
  · exact (h.changeMode _).of_ind rfl
  · refine State.QueueSound.deliver (State.QueueSound.of_ind (h.changeMode s.mode.remembered.toMode) ?_)
      false env
    simp
  · exact h

theorem State.QueueSound.lockedStart {s : State} (h : s.QueueSound) (time : Nat) (env : Env) :
    (s.lockedStart time env).QueueSound := by
  unfold State.lockedStart
  dsimp only
  split
  · refine State.QueueSound.deliver ?_ true env
    exact h
  · have hcounted := State.QueueSound.acqWork (s := s.setFrame (some ⟨time, none, none⟩)) h
      (acqWork_countCadence _ time)
    exact hcounted.of_ind (by simp)

theorem State.QueueSound.inputStart {s : State} (h : s.QueueSound) (time : Nat) (env : Env) :
    (s.inputStart time env).QueueSound := by
  have hguard : (s.guardBefore time).QueueSound := by
    unfold State.guardBefore
    repeat' split
    · exact h
    · exact h.loseInput
    · exact h
  have htorn : (s.guardBefore time).tearFrame.QueueSound := hguard.acqWork (acqWork_tearFrame _)
  unfold State.inputStart
  dsimp only
  split
  · exact (hguard.acqWork (acqWork_moveTo _ _ _)).of_ind rfl
  · split
    · exact htorn.of_ind rfl
    · exact hguard.lockedStart time env
  · split
    · exact htorn.of_ind rfl
    · exact hguard.lockedStart time env
  · exact (hguard.acqWork (acqWork_takeRecord _ _)).of_ind rfl

theorem State.QueueSound.inputEnd {s : State} (h : s.QueueSound) (frame : InputFrame) :
    (s.inputEnd frame).QueueSound := by
  unfold State.inputEnd
  dsimp only
  repeat' split
  · exact h
  · exact h
  · exact h.of_ind rfl
  · exact h.of_ind rfl
  · refine State.QueueSound.acqWork ?_ (acqWork_tearFrame _)
    exact h

/-! ### The profile store -/

theorem State.QueueSound.flagProfileBad {s : State} (h : s.QueueSound) : s.flagProfileBad.QueueSound :=
  h.setFlags _

theorem State.QueueSound.flaggedIf {s : State} (h : s.QueueSound) (bad : Prop) [Decidable bad] :
    (if bad then s.flagProfileBad else s).QueueSound := by
  split
  · exact h.flagProfileBad
  · exact h

theorem State.QueueSound.scanNext {s : State} (h : s.QueueSound) (r : AreaReading) :
    (s.scanNext r).QueueSound := by
  unfold State.scanNext
  split
  · exact h
  · refine State.QueueSound.flaggedIf ?_ _
    exact h

theorem State.QueueSound.scanDirectory {s : State} (h : s.QueueSound) (pass0 pass1 : Bool) :
    (s.scanDirectory pass0 pass1).QueueSound := by
  unfold State.scanDirectory
  refine State.QueueSound.flaggedIf ?_ _
  exact h

theorem State.QueueSound.scanStep {s : State} (h : s.QueueSound) (r : ScanReading) :
    (s.scanStep r).QueueSound := by
  unfold State.scanStep
  split
  · split
    · exact h
    · exact h.scanDirectory _ _
  · exact h.scanNext _

theorem State.QueueSound.scanRest {s : State} (h : s.QueueSound) : s.scanRest.QueueSound := by
  have hareas (n : Nat) (u : State) (hu : u.QueueSound) : (State.scanAreas n u).QueueSound := by
    induction n generalizing u with
    | zero => exact hu
    | succ n ih => exact ih _ (hu.scanNext _)
  exact hareas _ _ (h.scanStep _)

theorem State.QueueSound.profileDone {s : State} (h : s.QueueSound) (n : Option ProfileNo) (op : ProfileOp)
    (r : ProfileResult) : (s.profileDone n op r).QueueSound :=
  h.post _

theorem State.QueueSound.restoreChan {s : State} (h : s.QueueSound) (k : Output) (st : StoredOutput) :
    (s.restoreChan k st).QueueSound := by
  unfold State.restoreChan
  dsimp only
  split
  · refine State.QueueSound.changeChan ?_ _ _ _
    exact h
  · exact h

theorem State.QueueSound.applyInputControls {s : State} (h : s.QueueSound) (c : InputControls) :
    (s.applyInputControls c).QueueSound := by
  refine State.QueueSound.acqWork ?_ (acqWork_applyInputControls s c)
  exact h

theorem State.QueueSound.canvasChanged {s : State} (h : s.QueueSound) : s.canvasChanged.QueueSound :=
  s.tells_canvasChanged.sound h

theorem State.QueueSound.bootLoad {s : State} (h : s.QueueSound) (p : Profile) :
    (s.bootLoad p).QueueSound := by
  have hcontrols : (State.applyInputControls p.input { s with banks := s.banks.booted p }).QueueSound :=
    State.QueueSound.applyInputControls (s := { s with banks := s.banks.booted p }) h _
  unfold State.bootLoad
  dsimp only
  refine State.QueueSound.restoreChan (State.QueueSound.restoreChan (State.QueueSound.restoreChan
    (State.QueueSound.restoreChan ?_ _ _) _ _) _ _) _ _
  split
  · exact hcontrols.canvasChanged
  · exact hcontrols

theorem State.QueueSound.boot {s : State} (h : s.QueueSound) : s.boot.QueueSound := by
  unfold State.boot
  split
  · exact (h.profileDone _ _ _).changeMode _
  · split
    · refine State.QueueSound.changeMode (State.QueueSound.flagProfileBad
        (State.QueueSound.profileDone ?_ _ _ _)) _
      exact h
    · exact ((h.profileDone _ _ _).bootLoad _).changeMode _
    · exact ((h.profileDone _ _ _).flagProfileBad).changeMode _

theorem State.QueueSound.finishScan {s : State} (h : s.QueueSound) : s.finishScan.QueueSound := by
  have hboot : (s.scanRest.onProfiles (ProfileStore.setCtl .idle)).boot.QueueSound := by
    refine State.QueueSound.boot ?_
    exact h.scanRest
  exact hboot

theorem State.QueueSound.finishLoad {s : State} (h : s.QueueSound) (n : ProfileNo) (arm good : Bool) :
    (s.finishLoad n arm good).QueueSound := by
  unfold State.finishLoad
  dsimp only
  split
  · refine State.QueueSound.profileDone ?_ _ _ _
    exact h
  · refine State.QueueSound.flagProfileBad (State.QueueSound.profileDone ?_ _ _ _)
    exact h

/-- A finished flash operation posts PROFILE_DONE and may set PROFILE_BAD (R159 to R161). -/
theorem State.QueueSound.done {s : State} (h : s.QueueSound) (ok : Bool) (n : Option ProfileNo)
    (op : ProfileOp) :
    (if ok = true then s.profileDone n op .ok
      else (s.profileDone n op .failed).flagProfileBad).QueueSound := by
  split
  · exact h.profileDone _ _ _
  · exact (h.profileDone _ _ _).flagProfileBad

theorem State.QueueSound.enableChan {s : State} (h : s.QueueSound) (k : Output) :
    (s.enableChan k).QueueSound := by
  unfold State.enableChan
  split
  · exact h.changeChan _ _ _
  · exact h.changeChan _ _ _
  · exact h

theorem State.QueueSound.disableChan {s : State} (h : s.QueueSound) (k : Output) :
    (s.disableChan k).QueueSound := by
  unfold State.disableChan
  split
  · exact h.changeChan _ _ _
  · exact h.changeChan _ _ _
  · exact h.changeChan _ _ _
  · exact h.changeChan _ _ _
  · exact h

theorem State.QueueSound.acquireTimeout {s : State} (h : s.QueueSound) : s.acquireTimeout.QueueSound := by
  refine State.QueueSound.acqWork ?_ (acqWork_moveTo _ _ _)
  exact (h.post _).setFlags _

/-! ### Every step -/

theorem Change.keeps_queueSound {s t : State} (hc : Change s t) (h : s.QueueSound) : t.QueueSound := by
  cases hc with
  | restart => exact ⟨Nat.zero_le _, rfl⟩
  | flags f => exact h.setFlags f
  | wakeUp env => exact h.wakeUp env
  | dim home =>
    refine State.QueueSound.post ?_ _
    exact h
  | loseInput => exact h.loseInput
  | frameStart time env => exact h.inputStart time env
  | frameEnd frame => exact h.inputEnd frame
  | acquireTimeout => exact h.acquireTimeout
  | timerStart env =>
    refine State.QueueSound.deliver (h.of_ind ?_) false env
    simp
  | copyBack =>
    refine State.QueueSound.post ?_ _
    exact h
  | load n arm good => exact h.finishLoad n arm good
  | store | erase | bootWrite =>
    refine State.QueueSound.done ?_ _ _ _
    exact h
  | scan => exact h.finishScan
  | scanStep r => exact h.scanStep r
  | fetch =>
    obtain ⟨hroom, _⟩ := h
    refine ⟨?_, rfl⟩
    rw [List.length_drop]
    exact (Nat.sub_le _ _).trans hroom
  | inputControls c => exact h.applyInputControls c
  | acceptInput =>
    have hmoved : (s.moveTo .locking []).QueueSound := h.acqWork (acqWork_moveTo _ _ _)
    exact hmoved
  | enable k => exact h.enableChan k
  | disable k => exact h.disableChan k
  | rejoin k => exact h.changeChan k _ _
  | _ => exact h

/-- Settles O5: every change keeps the relation. -/
theorem everyStepKeepsTheIndicationQueueSound : Obligations.EveryStepKeepsTheIndicationQueueSound :=
  fun _ _ h hstep => step_keeps (P := State.QueueSound) (fun _ _ h => h)
    (fun _ _ hc h => hc.keeps_queueSound h) h hstep

end Sys2Proof.Machine
end

section
/-! PROOFS. Chapter 6, the ranges of a channel's record (R103, R106, R108): every change keeps them, and the
presence 0 of DISABLED and ACQUIRING. -/

namespace Sys2Proof.Machine

/-- The ranges of a record whose presence is still to follow its state. -/
structure Channel.InBounds (c : Channel) : Prop where
  presence : c.presence ≤ Config.one
  shown    : c.framePresence ≤ Config.one
  good     : c.goodRun ≤ 255
  bad      : c.badRun ≤ 15
  idle     : c.state = .disabled → c.goodRun = 0 ∧ c.badRun = 0

theorem Channel.Sound.inBounds {c : Channel} (h : c.Sound) : c.InBounds :=
  ⟨h.presence, h.shown, h.good, h.bad, h.idle⟩

theorem Channel.InBounds.sound {c : Channel} (h : c.InBounds)
    (hdark : c.state = .disabled ∨ c.state = .acquiring → c.presence = 0) : c.Sound :=
  ⟨h.presence, h.shown, h.good, h.bad, hdark, h.idle⟩

/-- R106: a sample counts within the ranges, and not in DISABLED. -/
theorem Channel.InBounds.countSample {c : Channel} (h : c.InBounds) (good : Bool) :
    (c.countSample good).InBounds := by
  unfold Channel.countSample
  split
  · exact h
  · next hstate =>
    split
    · exact ⟨h.presence, h.shown, min_le_left _ _, Nat.zero_le _, fun hd => absurd hd hstate⟩
    · exact ⟨h.presence, h.shown, Nat.zero_le _, min_le_left _ _, fun hd => absurd hd hstate⟩

/-- A change of state clears the runs (R104). -/
theorem Channel.InBounds.changed {c : Channel} (h : c.InBounds) (st : ChanState) :
    ({ c with state := st, goodRun := 0, badRun := 0 } : Channel).InBounds :=
  ⟨h.presence, h.shown, Nat.zero_le _, Nat.zero_le _, fun _ => ⟨rfl, rfl⟩⟩

theorem Channel.InBounds.sampled {c : Channel} (h : c.InBounds) (good : Bool) :
    (c.sampled good).InBounds := by
  unfold Channel.sampled
  split
  · exact h.countSample good
  · exact (h.countSample good).changed _

/-- R108: the presence follows within 4096. -/
theorem Channel.InBounds.nextPresence_le {c : Channel} (h : c.InBounds) : c.nextPresence ≤ Config.one := by
  have hpresence := h.presence
  unfold Channel.nextPresence
  split
  · exact Nat.zero_le _
  · exact Nat.zero_le _
  · exact min_le_left _ _
  · omega
  · split <;> omega
  · split <;> omega

/-- R105 steps 3 and 4: once the presence has moved, the record is sound. -/
theorem Channel.InBounds.faded {c : Channel} (h : c.InBounds) : c.faded.Sound := by
  have hnext := h.nextPresence_le
  unfold Channel.faded
  split
  · next hended => exact ⟨hnext, h.shown, Nat.zero_le _, Nat.zero_le _, fun _ => hended.2, fun _ => ⟨rfl, rfl⟩⟩
  · refine ⟨hnext, h.shown, h.good, h.bad, ?_, h.idle⟩
    rintro (hstate | hstate)
    all_goals
      have hstate : c.state = _ := hstate
      simp [Channel.nextPresence, hstate]

theorem Channel.Sound.latch {c : Channel} (h : c.Sound) (mode : ModeState) : (c.latch mode).Sound :=
  ⟨h.presence, h.presence, h.good, h.bad, h.dark, h.idle⟩

theorem Channel.Sound.started {c : Channel} (h : c.Sound) (good : Bool) (mode : ModeState) :
    (c.started good mode).Sound := by
  unfold Channel.started
  split
  · refine ((h.inBounds.countSample good).sound fun hstate => ?_).latch mode
    have hpresence : (c.countSample good).presence = c.presence := by
      unfold Channel.countSample
      split
      · rfl
      · split <;> rfl
    rw [hpresence]
    exact h.dark (by simpa using hstate)
  · exact (h.inBounds.sampled good).faded.latch mode

theorem Channel.Sound.asleep {c : Channel} (h : c.Sound) : c.asleep.Sound := by
  unfold Channel.asleep
  split
  · exact ⟨h.presence, Nat.zero_le _, h.good, h.bad, h.dark, h.idle⟩
  · exact ⟨Nat.zero_le _, Nat.zero_le _, Nat.zero_le _, Nat.zero_le _, fun _ => rfl, fun _ => ⟨rfl, rfl⟩⟩

/-! ### The channels together -/

theorem State.ChannelsSound.of_set {s t : State} {k : Output} {c : Channel} (h : s.ChannelsSound)
    (hchans : t.chans = s.chans.set k c) (hc : c.Sound) : t.ChannelsSound := by
  intro j
  rw [hchans]
  exact Four.forall_get_set (p := Channel.Sound) k h hc j

theorem State.ChannelsSound.of_eq {s t : State} (h : s.ChannelsSound) (hchans : t.chans = s.chans) :
    t.ChannelsSound := by
  intro j
  rw [hchans]
  exact h j

/-- R104: a change of a channel's state keeps the ranges where the presence fits the new state. -/
theorem State.ChannelsSound.changeChan {s : State} (h : s.ChannelsSound) (k : Output) {c : Channel}
    (cause : Cause) (hpresence : c.presence ≤ Config.one) (hshown : c.framePresence ≤ Config.one)
    (hdark : c.state = .disabled ∨ c.state = .acquiring → c.presence = 0) :
    (s.changeChan k c cause).ChannelsSound :=
  h.of_set (s.changeChan_chans k c cause)
    ⟨hpresence, hshown, Nat.zero_le _, Nat.zero_le _, hdark, fun _ => ⟨rfl, rfl⟩⟩

theorem State.ChannelsSound.chanStandby {s : State} (h : s.ChannelsSound) (k : Output) :
    (s.chanStandby k).ChannelsSound :=
  h.of_set (s.chanStandby_chans k) (h k).asleep

theorem State.ChannelsSound.take {s : State} (h : s.ChannelsSound) (align : Bool) (t : Taker) :
    (s.take align t).ChannelsSound := by
  cases t with
  | channel k => exact h.of_set (s.channelStart_chans k) ((h k).started _ _)
  | master =>
    rw [State.take, State.masterStart]
    dsimp only
    split
    · unfold State.enterStandby
      dsimp only
      refine State.ChannelsSound.chanStandby (State.ChannelsSound.chanStandby
        (State.ChannelsSound.chanStandby (State.ChannelsSound.chanStandby ?_ 0) 1) 2) 3
      exact h.of_eq (by simp)
    · exact h
  | acquisition | write =>
    rw [State.take]
    split
    · exact h.of_eq (by simp)
    · exact h.of_eq (by simp)
  | _ => exact h.of_eq (by simp [State.take])

theorem State.ChannelsSound.deliver {s : State} (h : s.ChannelsSound) (align : Bool) (env : Env) :
    (s.deliver align env).ChannelsSound := by
  unfold State.deliver
  refine State.ChannelsSound.of_eq (s := (takeOrder env.order).foldl
    (fun s t => (s.take align t).retarget) { s with pins := { s.pins with linkGood := env.link } }) ?_
    (by simp)
  refine List.foldlRecOn (motive := State.ChannelsSound) (takeOrder env.order) _ h ?_
  exact fun u hu t _ => hu.take align t

theorem State.ChannelsSound.wakeUp {s : State} (h : s.ChannelsSound) (env : Env) :
    (s.wakeUp env).ChannelsSound := by
  unfold State.wakeUp
  split
  · exact h.of_eq (by simp)
  · refine State.ChannelsSound.deliver (h.of_eq ?_) false env
    simp
  · exact h

theorem State.ChannelsSound.inputStart {s : State} (h : s.ChannelsSound) (time : Nat) (env : Env) :
    (s.inputStart time env).ChannelsSound := by
  have hlocked (u : State) (hu : u.ChannelsSound) : (u.lockedStart time env).ChannelsSound := by
    unfold State.lockedStart
    dsimp only
    split
    · refine State.ChannelsSound.deliver ?_ true env
      exact hu
    · exact hu.of_eq (by simp)
  have hguard : (s.guardBefore time).ChannelsSound := h.of_eq (by simp)
  unfold State.inputStart
  dsimp only
  repeat' split
  · exact h.of_eq (by simp)
  · exact h.of_eq (by simp)
  · exact hlocked _ hguard
  · exact h.of_eq (by simp)
  · exact hlocked _ hguard
  · exact h.of_eq (by simp)

/-! ### Channel requests and the boot load (R112 to R114, R125) -/

theorem State.ChannelsSound.enableChan {s : State} (h : s.ChannelsSound) (k : Output) :
    (s.enableChan k).ChannelsSound := by
  have hk : (s.chan k).Sound := h k
  unfold State.enableChan
  split
  · next hstate => exact h.changeChan k _ hk.presence hk.shown fun _ => hk.dark (.inl hstate)
  · exact h.changeChan k _ hk.presence hk.shown (by simp)
  · exact h

theorem State.ChannelsSound.disableChan {s : State} (h : s.ChannelsSound) (k : Output) :
    (s.disableChan k).ChannelsSound := by
  have hk : (s.chan k).Sound := h k
  unfold State.disableChan
  split
  · exact h.changeChan k _ hk.presence hk.shown (by simp)
  · next hstate => exact h.changeChan k _ hk.presence hk.shown fun _ => hk.dark (.inr hstate)
  · exact h.changeChan k _ (Nat.zero_le _) hk.shown fun _ => rfl
  · exact h.changeChan k _ (Nat.zero_le _) hk.shown fun _ => rfl
  · exact h

/-- Controls are no part of the relation. -/
theorem Channel.Sound.withControls {c : Channel} (h : c.Sound) (controls : OutputControls) :
    ({ c with controls := controls } : Channel).Sound :=
  ⟨h.presence, h.shown, h.good, h.bad, h.dark, h.idle⟩

theorem State.ChannelsSound.restoreChan {s : State} (h : s.ChannelsSound) (k : Output) (st : StoredOutput) :
    (s.restoreChan k st).ChannelsSound := by
  have hset : (s.setChan k { s.chan k with controls := st.controls }).ChannelsSound :=
    h.of_set rfl ((h k).withControls st.controls)
  unfold State.restoreChan
  dsimp only
  split
  · exact hset.changeChan k _ (Nat.zero_le _) (hset k).shown fun _ => rfl
  · exact hset

theorem State.ChannelsSound.bootLoad {s : State} (h : s.ChannelsSound) (p : Profile) :
    (s.bootLoad p).ChannelsSound := by
  unfold State.bootLoad
  dsimp only
  refine State.ChannelsSound.restoreChan (State.ChannelsSound.restoreChan
    (State.ChannelsSound.restoreChan (State.ChannelsSound.restoreChan ?_ _ _) _ _) _ _) _ _
  split
  · exact h.of_eq (by simp)
  · exact h.of_eq (by simp)

theorem State.ChannelsSound.boot {s : State} (h : s.ChannelsSound) : s.boot.ChannelsSound := by
  rcases s.boot_cases with ⟨_, e⟩ | ⟨n, _, _, e⟩ | ⟨n, p, _, _, _, e⟩ | ⟨n, _, _, _, _, e⟩
  · exact h.of_eq (by simp [e])
  · exact h.of_eq (by simp [e])
  · have hdone : (s.profileDone (some n) .boot .ok).ChannelsSound := h.of_eq (by simp)
    exact (hdone.bootLoad p).of_eq (by simp [e])
  · exact h.of_eq (by simp [e])

/-! ### Every step -/

theorem State.reset_channelsSound : State.reset.ChannelsSound := by
  intro k
  rw [State.reset, Four.get_all]
  constructor <;> decide

theorem Change.keeps_channelsSound {s t : State} (hc : Change s t) (h : s.ChannelsSound) :
    t.ChannelsSound := by
  cases hc with
  | restart => exact State.reset_channelsSound
  | wakeUp env => exact h.wakeUp env
  | timerStart env =>
    refine State.ChannelsSound.deliver (h.of_eq ?_) false env
    simp
  | frameStart time env => exact h.inputStart time env
  | scan =>
    have hboot : (s.scanRest.onProfiles (ProfileStore.setCtl .idle)).boot.ChannelsSound :=
      State.ChannelsSound.boot (h.of_eq (by simp))
    exact hboot
  | enable k => exact h.enableChan k
  | disable k => exact h.disableChan k
  | rejoin k =>
    have hk : (s.chan k).Sound := h k
    exact h.changeChan k (c := { s.chan k with state := .active }) .host hk.presence hk.shown (by simp)
  | outputControls k c => exact h.of_set rfl ((h k).withControls c)
  | _ => exact h.of_eq (by simp [State.startDimming, State.editScene])

/-- Settles O6: every change keeps the relation. -/
theorem everyStepKeepsTheChannelsSound : Obligations.EveryStepKeepsTheChannelsSound :=
  fun _ _ h hstep => step_keeps (P := State.ChannelsSound) (fun _ _ h => h)
    (fun _ _ hc h => hc.keeps_channelsSound h) h hstep

end Sys2Proof.Machine
end

section
/-! PROOFS. Chapter 2, the frame buffers (R21, R16, R23, R29): one SHOWING at most, FILLING exactly the one
that the frame in progress is written into, and every picture in its canonical form. -/

namespace Sys2Proof.Machine

theorem AcqState.noSignal_unlocked : AcqState.isLocked .noSignal = false := rfl

/-! ### The relation by its fields -/

/-- The relation looks at these fields only. -/
theorem State.BuffersSound.of_eq {s t : State} (h : s.BuffersSound) (hbufs : t.frames.bufs = s.frames.bufs)
    (hwriting : t.writing? = s.writing?)
    (hlocked : s.acq.state.isLocked = true → t.acq.state.isLocked = true) : t.BuffersSound where
  oneShowing := by simpa [hbufs] using h.oneShowing
  filling := by simpa [hbufs, hwriting] using h.filling
  locked := fun hw => hlocked (h.locked (hwriting ▸ hw))

theorem State.writing?_of_frame {s t : State} (h : t.acq.frame = s.acq.frame) : t.writing? = s.writing? := by
  rw [State.writing?, State.writing?, h]

theorem State.BuffersSound.of_frame {s t : State} (h : s.BuffersSound)
    (hbufs : t.frames.bufs = s.frames.bufs) (hframe : t.acq.frame = s.acq.frame)
    (hstate : t.acq.state = s.acq.state) : t.BuffersSound :=
  h.of_eq hbufs (State.writing?_of_frame hframe) fun hl => hstate ▸ hl

/-- With every buffer EMPTY and nothing written the relation holds. -/
theorem State.buffersSound_of_empty {s : State} (hbufs : s.frames.bufs = Three.all .empty)
    (hwriting : s.writing? = none) : s.BuffersSound where
  oneShowing := by simp [hbufs, BufRec.Showing]
  filling := by simp [hbufs, hwriting, BufRec.Filling]
  locked := by simp [hwriting]

/-- One buffer's record changes to one that is not SHOWING. -/
theorem State.BuffersSound.of_set {s t : State} {b : BufNo} {r : BufRec} (h : s.BuffersSound)
    (hbufs : t.frames.bufs = s.frames.bufs.set b r) (hshowing : ¬ r.Showing)
    (hsame : r.Filling ↔ ∃ w, t.writing? = some w ∧ w.buf = b)
    (hothers : ∀ c, c ≠ b →
      ((∃ w, s.writing? = some w ∧ w.buf = c) ↔ ∃ w, t.writing? = some w ∧ w.buf = c))
    (hlocked : t.writing?.isSome → t.acq.state.isLocked = true) : t.BuffersSound where
  oneShowing := by
    intro c d
    rw [hbufs]
    by_cases hc : c = b
    · subst hc
      rw [Three.get_set_same]
      exact fun hr => absurd hr hshowing
    · by_cases hd : d = b
      · subst hd
        rw [Three.get_set_same]
        exact fun _ hr => absurd hr hshowing
      · rw [Three.get_set_other _ _ _ _ hc, Three.get_set_other _ _ _ _ hd]
        exact h.oneShowing c d
  filling := by
    intro c
    rw [hbufs]
    by_cases hc : c = b
    · subst hc
      rw [Three.get_set_same]
      exact hsame
    · rw [Three.get_set_other _ _ _ _ hc]
      exact (h.filling c).trans (hothers c hc)
  locked := hlocked

/-- The write into buffer `b` ends. -/
theorem State.BuffersSound.of_ended {s t : State} {w : FrameWrite} {r : BufRec} (h : s.BuffersSound)
    (hwriting : s.writing? = some w) (hbufs : t.frames.bufs = s.frames.bufs.set w.buf r)
    (hshowing : ¬ r.Showing) (hfilling : ¬ r.Filling) (hended : t.writing? = none) : t.BuffersSound := by
  refine h.of_set hbufs hshowing (by simp [hended, hfilling]) (fun c hc => ?_) (by simp [hended])
  have hother : w.buf ≠ c := fun e => hc e.symm
  simp [hended, hwriting, hother]

/-- Outside the locked states nothing is written. -/
theorem State.BuffersSound.not_writing {s : State} (h : s.BuffersSound)
    (hunlocked : s.acq.state.isLocked = false) : s.writing? = none := by
  by_contra hw
  have hlocked := h.locked (Option.isSome_iff_ne_none.2 hw)
  rw [hunlocked] at hlocked
  contradiction

@[simp] theorem State.writing?_dropWrite (s : State) : s.dropWrite.writing? = none := by
  unfold State.writing?
  rw [State.dropWrite_acq]
  cases s.acq.frame <;> rfl

/-! ### A change of acquisition state (R3, R25) -/

/-- R3: the buffers after the actions on leaving. -/
theorem Spec.leaving_bufs {s : State} (h : s.acq.state.isLocked = true) :
    (Spec.leaving s).frames.bufs = (match s.writing? with
      | none => s.frames.bufs
      | some w => s.frames.bufs.set w.buf .empty) ∧ (Spec.leaving s).writing? = none := by
  rw [Spec.leaving, if_pos ((AcqState.isLocked_eq_true _).1 h)]
  refine ⟨rfl, ?_⟩
  unfold State.writing?
  cases s.acq.frame <;> rfl

theorem Spec.leaving_not_writing {s : State} (h : s.BuffersSound) : (Spec.leaving s).writing? = none := by
  cases hlocked : s.acq.state.isLocked with
  | true => exact (Spec.leaving_bufs hlocked).2
  | false =>
    rw [Spec.leaving_of_unlocked hlocked]
    exact h.not_writing hlocked

/-- R25: the buffer of an abandoned write goes to EMPTY. -/
theorem Spec.leaving_buffersSound {s : State} (h : s.BuffersSound) : (Spec.leaving s).BuffersSound := by
  cases hlocked : s.acq.state.isLocked with
  | false => rwa [Spec.leaving_of_unlocked hlocked]
  | true =>
    obtain ⟨hbufs, hnone⟩ := Spec.leaving_bufs hlocked
    obtain ⟨_, _, _, _, _, _, _, _, _, _, _, _, hstate, _, _⟩ := Spec.leaving_rest s
    cases hwriting : s.writing? with
    | none =>
      rw [hwriting] at hbufs
      exact h.of_eq hbufs (hnone.trans hwriting.symm) fun hl => hstate ▸ hl
    | some w =>
      rw [hwriting] at hbufs
      exact h.of_ended hwriting hbufs (by simp [BufRec.Showing]) (by simp [BufRec.Filling]) hnone

theorem State.BuffersSound.moveTo {s : State} (h : s.BuffersSound) (new : AcqState)
    (w : List FrameRecord) : (s.moveTo new w).BuffersSound := by
  cases hnew : new.isLocked with
  | true =>
    rw [s.moveTo_in w hnew]
    refine h.of_eq rfl (State.writing?_of_frame (Acquisition.enter_frame _ _ _)) fun _ => ?_
    simpa using hnew
  | false =>
    have hnone := Spec.leaving_not_writing h
    rw [s.moveTo_out w hnew]
    have hframe : ({ Spec.leaving s with
        acq := (Spec.leaving s).acq.enter new w, ind := Indications.movedTo new s } : State).writing? =
        (Spec.leaving s).writing? := State.writing?_of_frame (Acquisition.enter_frame _ _ _)
    have hleft := Spec.leaving_buffersSound h
    exact {
      oneShowing := hleft.oneShowing
      filling := by simpa [hframe] using hleft.filling
      locked := by simp [hframe, hnone] }

/-- The work of the Input Acquisition Controller keeps the relation. -/
theorem State.BuffersSound.acqWork {s t : State} (h : s.BuffersSound) (hwork : AcqWork s t) :
    t.BuffersSound := by
  induction hwork with
  | refl => exact h
  | move s new w => exact h.moveTo new w
  | flags f _ ih => exact ih (h.of_frame rfl rfl rfl)
  | registers _ hu hstate _ hframe ih => 
    refine ih (h.of_frame ?_ hframe hstate)
    rw [hu]

/-- The work leaves the frame in progress, or drops its write. -/
theorem AcqWork.frame_cases {s t : State} (hwork : AcqWork s t) :
    t.acq.frame = s.acq.frame ∨ t.acq.frame = s.dropWrite.acq.frame := by
  induction hwork with
  | refl => exact .inl rfl
  | move s new w =>
    cases hnew : new.isLocked with
    | true => exact .inl (by rw [s.moveTo_in w hnew]; simp)
    | false =>
      rw [s.moveTo_out w hnew]
      simp only [Acquisition.enter_frame]
      unfold Spec.leaving
      split
      · exact .inr rfl
      · exact .inl rfl
  | flags _ _ ih => exact ih
  | registers _ _ _ _ hframe ih => simpa [hframe] using ih

/-- A frame that is not written stays as it is. -/
theorem AcqWork.frame_eq {s t : State} (hwork : AcqWork s t) (h : s.writing? = none) :
    t.acq.frame = s.acq.frame := by
  rcases hwork.frame_cases with e | e
  · exact e
  · exact e.trans (s.frame_dropped h)

theorem State.BuffersSound.loseInput {s : State} (h : s.BuffersSound) : s.loseInput.BuffersSound := by
  obtain ⟨t, hwork, heq⟩ := loseInput_work s
  have hstate : t.acq.state = .noSignal := by
    have hlost : s.loseInput.acq.state = .noSignal := by simp [State.loseInput]
    rw [heq] at hlost
    exact hlost
  have ht := h.acqWork hwork
  rw [heq]
  refine ht.of_eq rfl ?_ id
  exact (ht.not_writing (by simp [hstate, AcqState.isLocked])).symm

/-! ### Showing and writing (R26, R23) -/

/-- R26: the records after the choice. -/
theorem showBuffer_get (b c : BufNo) (bufs : Three BufRec) : (showBuffer b bufs).get c =
    if c = b then ((bufs.get c).toComplete).toShowing else (bufs.get c).toComplete := by
  unfold showBuffer
  split
  · next h =>
    subst h
    simp
  · next h => simp [Three.get_set_other _ _ _ _ h]

theorem BufRec.toShowing_filling (r : BufRec) : r.toComplete.toShowing.Filling ↔ r.Filling := by
  cases r <;> simp [BufRec.toComplete, BufRec.toShowing, BufRec.Filling]

theorem BufRec.toComplete_filling (r : BufRec) : r.toComplete.Filling ↔ r.Filling := by
  cases r <;> simp [BufRec.toComplete, BufRec.Filling]

theorem BufRec.toComplete_not_showing (r : BufRec) : ¬ r.toComplete.Showing := by
  cases r <;> simp [BufRec.toComplete, BufRec.Showing]

theorem State.BuffersSound.changeShowing {s : State} (h : s.BuffersSound) (b : Option BufNo) :
    (s.changeShowing b).BuffersSound := by
  unfold State.changeShowing
  split
  · exact h
  · next b =>
    have honly (c : BufNo) (hc : ((showBuffer b s.frames.bufs).get c).Showing) : c = b := by
      by_contra hne
      rw [showBuffer_get, if_neg hne] at hc
      exact BufRec.toComplete_not_showing _ hc
    refine ⟨fun c d hc hd => (honly c hc).trans (honly d hd).symm, fun c => ?_, h.locked⟩
    refine Iff.trans ?_ (h.filling c)
    rw [showBuffer_get]
    split
    · exact BufRec.toShowing_filling _
    · exact BufRec.toComplete_filling _

theorem State.countSlip_bufs (s : State) : s.countSlip.frames.bufs = s.frames.bufs := by
  unfold State.countSlip
  dsimp only
  split <;> simp

theorem State.BuffersSound.selectFrame {s : State} (h : s.BuffersSound) : s.selectFrame.BuffersSound := by
  have hslip (u : State) (hu : u.BuffersSound) : u.countSlip.BuffersSound :=
    hu.of_frame u.countSlip_bufs (by simp) (by simp)
  unfold State.selectFrame State.showExpected
  dsimp only
  repeat' split
  · exact h.changeShowing _
  · exact hslip _ (h.changeShowing _)
  · exact hslip _ (h.changeShowing _)
  · exact h.changeShowing _

/-- R23, R24: a write begins where the frame in progress is not written yet. -/
theorem State.BuffersSound.beginWrite {s : State} (h : s.BuffersSound) (hnone : s.writing? = none)
    (hframe : s.acq.state.isLocked = true → s.acq.frame.isSome) : s.beginWrite.BuffersSound := by
  unfold State.beginWrite
  split
  · exact h
  · next hlocked =>
    have hlocked : s.acq.state.isLocked = true := by simpa using hlocked
    obtain ⟨f, hf⟩ := Option.isSome_iff_exists.1 (hframe hlocked)
    split
    · exact h
    · refine h.of_set rfl (by simp [BufRec.Showing]) ?_ ?_ fun _ => hlocked
      · simp [BufRec.Filling, State.writing?, hf]
      · intro c hc
        have hne : ¬ (_ = c) := fun e => hc e.symm
        have hwrite : f.write = none := by simpa [State.writing?, hf] using hnone
        simp [State.writing?, hf, hwrite, hne]

/-! ### A start and its takers -/

/-- R29: an emptied store holds nothing, and nothing is written into it. -/
theorem State.canvasChanged_buffersSound (s : State) : s.canvasChanged.BuffersSound :=
  State.buffersSound_of_empty rfl (State.writing?_dropWrite _)

theorem State.canvasChanged_not_writing (s : State) : s.canvasChanged.writing? = none :=
  State.writing?_dropWrite _

theorem State.enterStandby_buffersSound (s : State) : s.enterStandby.BuffersSound := by
  refine State.buffersSound_of_empty (by simp [State.enterStandby]) ?_
  simp [State.writing?, State.enterStandby, State.standbyInput_acq]

theorem State.BuffersSound.swap {s : State} (h : s.BuffersSound) : s.swap.BuffersSound := by
  have hmode (u : State) (hu : u.BuffersSound) :
      (if u.mode.mode = .setup then u.changeMode .run else u).BuffersSound := by
    split
    · exact hu.of_frame (by simp) (by simp) (by simp)
    · exact hu
  unfold State.swap
  dsimp only
  cases s.active.scene.canvasDiffers s.pendingBank.scene with
  | true =>
    refine hmode _ ?_
    exact State.canvasChanged_buffersSound _
  | false =>
    refine hmode _ ?_
    exact h.of_frame (by simp) (by simp) (by simp)

/-- What the write at an alignment point needs: nothing is written yet, and a frame is in progress, or the
start has entered STANDBY. -/
def State.WriteDue (s : State) : Prop :=
  s.writing? = none ∧ (s.acq.frame.isSome ∨ s.acq.state = .noSignal)

theorem State.BuffersSound.take {s : State} (h : s.BuffersSound) {align : Bool} {t : Taker}
    (hdue : t = .write → align = true → s.WriteDue) : (s.take align t).BuffersSound := by
  cases t with
  | frameStore => exact h.selectFrame
  | channel k => exact h.of_frame (by simp [State.take]) (by simp [State.take]) (by simp [State.take])
  | bank =>
    rw [State.take, State.bankStart]
    split
    · exact h.swap
    · exact h
  | master =>
    rw [State.take, State.masterStart]
    dsimp only
    split
    · exact State.enterStandby_buffersSound _
    · exact h.of_frame rfl rfl rfl
  | acquisition =>
    rw [State.take]
    split
    · exact h
    · exact h.acqWork (acqWork_acquisitionStart s)
  | probe => exact h.of_frame (by simp [State.take]) (by simp [State.take]) (by simp [State.take])
  | write =>
    rw [State.take]
    split
    · next halign =>
      obtain ⟨hnone, hframe⟩ := hdue rfl halign
      refine h.beginWrite hnone fun hlocked => ?_
      rcases hframe with hframe | hstate
      · exact hframe
      · simp [hstate, AcqState.isLocked] at hlocked
    · exact h

theorem State.WriteDue.of_eq {s t : State} (h : s.WriteDue) (hframe : t.acq.frame = s.acq.frame)
    (hstate : t.acq.state = s.acq.state) : t.WriteDue :=
  ⟨(State.writing?_of_frame hframe).trans h.1, by simpa [hframe, hstate] using h.2⟩

theorem State.WriteDue.canvasChanged {s : State} (h : s.WriteDue) : s.canvasChanged.WriteDue := by
  refine ⟨s.canvasChanged_not_writing, ?_⟩
  rcases h.2 with hframe | hstate
  · left
    have hnew := (acqWork_newCanvas s).frame_eq h.1
    simpa [State.canvasChanged, hnew] using hframe
  · right
    simpa [State.canvasChanged, State.newCanvas_of_noSignal s hstate] using hstate

/-- The takers before the write leave it due. -/
theorem State.WriteDue.take {s : State} (h : s.WriteDue) {t : Taker} (ht : t ≠ .write) :
    (s.take true t).WriteDue := by
  cases t with
  | write => exact absurd rfl ht
  | bank =>
    rw [State.take, State.bankStart]
    split
    · have hmode (u : State) (hu : u.WriteDue) :
          (if u.mode.mode = .setup then u.changeMode .run else u).WriteDue := by
        split
        · exact hu.of_eq (by simp) (by simp)
        · exact hu
      unfold State.swap
      dsimp only
      refine hmode _ ?_
      have hposted : (({ s with banks := s.banks.swapped } : State).post
          (.bankSwapped s.banks.swapped.revision)).WriteDue := h.of_eq (by simp) (by simp)
      split
      · exact hposted.canvasChanged
      · exact hposted
    · exact h
  | master =>
    rw [State.take, State.masterStart]
    dsimp only
    split
    · refine ⟨?_, .inr ?_⟩
      · simp [State.writing?, State.enterStandby, State.standbyInput_acq]
      · simp [State.enterStandby, State.standbyInput_acq]
    · exact h
  | acquisition => exact h
  | _ => exact h.of_eq (by simp [State.take]) (by simp [State.take])

/-- Each taker takes a start once, so the write is due until it is taken. -/
theorem State.BuffersSound.takeAll {align : Bool} {order : List Taker} (hnodup : order.Nodup) {s : State}
    (h : s.BuffersSound) (hdue : .write ∈ order → align = true → s.WriteDue) :
    (order.foldl (fun s t => (s.take align t).retarget) s).BuffersSound := by
  induction order generalizing s with
  | nil => exact h
  | cons t ts ih =>
    obtain ⟨hnot, hnodup⟩ := List.nodup_cons.1 hnodup
    refine ih hnodup ?_ fun hwrite halign => ?_
    · have htaken := h.take (align := align) (t := t) fun ht => hdue (by simp [ht])
      exact htaken.of_frame rfl rfl rfl
    · subst halign
      have hne : t ≠ .write := fun e => hnot (e ▸ hwrite)
      exact ((hdue (by simp [hwrite]) rfl).take hne).of_eq rfl rfl

theorem State.BuffersSound.deliver {s : State} (h : s.BuffersSound) {align : Bool} (env : Env)
    (hdue : align = true → s.WriteDue) : (s.deliver align env).BuffersSound := by
  unfold State.deliver
  refine State.BuffersSound.of_frame (State.BuffersSound.takeAll (align := align)
    (takeOrder_nodup env.order) (s := { s with
    pins := { s.pins with linkGood := env.link } }) ?_ ?_) (by simp) (by simp) (by simp)
  · exact h.of_frame rfl rfl rfl
  · exact fun _ halign => (hdue halign).of_eq rfl rfl

theorem State.BuffersSound.wakeUp {s : State} (h : s.BuffersSound) (env : Env) :
    (s.wakeUp env).BuffersSound := by
  unfold State.wakeUp
  split
  · exact h.of_frame (by simp) (by simp) (by simp)
  · refine State.BuffersSound.deliver (h.of_frame ?_ ?_ ?_) env nofun
    · unfold State.handBase
      split <;> simp
    · simp
    · simp
  · exact h

theorem State.BuffersSound.timerStart {s : State} (h : s.BuffersSound) (env : Env) :
    (s.timerStart env).BuffersSound := by
  refine State.BuffersSound.deliver (h.of_frame ?_ ?_ ?_) env nofun
  · unfold State.handBase
    split <;> rfl
  · simp
  · simp

/-- R10, R11, R23: a start in a locked state, the frame before not being written. -/
theorem State.BuffersSound.lockedStart {s : State} (h : s.BuffersSound) (hnone : s.writing? = none)
    (time : Nat) (env : Env) : (s.lockedStart time env).BuffersSound := by
  have hbegun : (s.setFrame (some ⟨time, none, none⟩)).BuffersSound :=
    h.of_eq rfl hnone.symm id
  unfold State.lockedStart
  dsimp only
  split
  · refine State.BuffersSound.deliver ?_ env fun _ => ?_
    · exact hbegun.of_frame rfl rfl rfl
    · exact ⟨rfl, .inl rfl⟩
  · have hframe := (acqWork_countCadence (s.setFrame (some ⟨time, none, none⟩)) time).frame_eq rfl
    refine (hbegun.acqWork (acqWork_countCadence _ time)).beginWrite ?_ fun _ => ?_
    · exact State.writing?_of_frame hframe
    · rw [hframe]
      rfl

theorem State.BuffersSound.guardBefore {s : State} (h : s.BuffersSound) (time : Nat) :
    (s.guardBefore time).BuffersSound := by
  unfold State.guardBefore
  split
  · exact h
  · split
    · exact h.loseInput
    · exact h

/-- A frame begins in a state that leaves nothing written. -/
theorem State.BuffersSound.setFrame {s : State} (h : s.BuffersSound) (hunlocked : s.acq.state.isLocked = false)
    (time : Nat) : (s.setFrame (some ⟨time, none, none⟩)).BuffersSound :=
  h.of_eq rfl (h.not_writing hunlocked).symm id

theorem State.BuffersSound.takeRecord {s : State} (h : s.BuffersSound)
    (hunlocked : s.acq.state.isLocked = false) (r : Option FrameRecord) (time : Nat) :
    ((s.takeRecord r).setFrame (some ⟨time, none, none⟩)).BuffersSound := by
  have hwork := acqWork_takeRecord s r
  have hnone := h.not_writing hunlocked
  have htaken := h.acqWork hwork
  refine htaken.of_eq rfl ?_ id
  exact ((State.writing?_of_frame (hwork.frame_eq hnone)).trans hnone).symm

theorem State.BuffersSound.inputStart {s : State} (h : s.BuffersSound) (time : Nat) (env : Env) :
    (s.inputStart time env).BuffersSound := by
  have hguard := h.guardBefore time
  have hlocked : (if (s.guardBefore time).writing?.isSome = true
      then (s.guardBefore time).tearFrame.setFrame (some ⟨time, none, none⟩)
      else (s.guardBefore time).lockedStart time env).BuffersSound := by
    split
    · refine (hguard.acqWork (acqWork_tearFrame _)).setFrame ?_ time
      simp [State.tearFrame, AcqState.isLocked]
    · next hwriting => exact hguard.lockedStart (by simpa using hwriting) time env
  unfold State.inputStart
  dsimp only
  split
  · refine (hguard.moveTo .measuring []).setFrame ?_ time
    simp [AcqState.isLocked]
  · exact hlocked
  · exact hlocked
  · next hnone hlocking hlock =>
    refine hguard.takeRecord ?_ _ time
    simp_all [AcqState.isLocked]

theorem State.BuffersSound.inputEnd {s : State} (h : s.BuffersSound) (frame : InputFrame) :
    (s.inputEnd frame).BuffersSound := by
  unfold State.inputEnd
  split
  · exact h
  · next f hf =>
    have hsized : (s.setFrame (some { f with size := some (activeSize frame) })).BuffersSound := by
      refine h.of_eq rfl ?_ id
      simp [State.writing?, hf]
    split
    · exact h
    · dsimp only
      split
      · exact hsized
      · next w hw =>
        split
        · have hwriting : s.writing? = some w := by simpa [State.writing?, hf] using hw
          obtain ⟨n, v, hbuf⟩ := (h.filling w.buf).2 ⟨w, hwriting, rfl⟩
          refine hsized.of_ended (w := w) (r := (s.frames.bufs.get w.buf).finish) ?_ rfl ?_ ?_ ?_
          · simpa [State.writing?] using hw
          · simp [hbuf, BufRec.finish, BufRec.Showing]
          · simp [hbuf, BufRec.finish, BufRec.Filling]
          · exact State.writing?_dropWrite _
        · exact hsized.acqWork (acqWork_tearFrame _)

theorem State.BuffersSound.bootLoad {s : State} (h : s.BuffersSound) (p : Profile) :
    (s.bootLoad p).BuffersSound := by
  have hcontrols : (State.applyInputControls p.input { s with banks := s.banks.booted p }).BuffersSound := by
    refine State.BuffersSound.acqWork ?_ (acqWork_applyInputControls _ _)
    exact h.of_frame rfl rfl rfl
  have hcanvas : (if s.active.scene.canvasDiffers p.scene = true then
      (State.applyInputControls p.input { s with banks := s.banks.booted p }).canvasChanged
      else State.applyInputControls p.input { s with banks := s.banks.booted p }).BuffersSound := by
    split
    · exact State.canvasChanged_buffersSound _
    · exact hcontrols
  exact hcanvas.of_frame (by simp [State.bootLoad]) (by simp [State.bootLoad]) (by simp [State.bootLoad])

theorem State.BuffersSound.boot {s : State} (h : s.BuffersSound) : s.boot.BuffersSound := by
  rcases s.boot_cases with ⟨_, e⟩ | ⟨n, _, _, e⟩ | ⟨n, p, _, _, _, e⟩ | ⟨n, _, _, _, _, e⟩
  · exact h.of_frame (by simp [e]) (by simp [e]) (by simp [e])
  · exact h.of_frame (by simp [e]) (by simp [e]) (by simp [e])
  · have hdone : (s.profileDone (some n) .boot .ok).BuffersSound :=
      h.of_frame (by simp) (by simp) (by simp)
    exact (hdone.bootLoad p).of_frame (by simp [e]) (by simp [e]) (by simp [e])
  · exact h.of_frame (by simp [e]) (by simp [e]) (by simp [e])

/-! ### The pictures of frame memory (R21, R24) -/

theorem State.PicturesCanonical.of_eq {s t : State} (h : s.PicturesCanonical)
    (hmem : t.frames.mem = s.frames.mem) : t.PicturesCanonical := by
  intro b
  rw [hmem]
  exact h b

theorem AcqWork.mem_eq {s t : State} (h : AcqWork s t) : t.frames.mem = s.frames.mem :=
  congrArg Steady.mem h.steady_eq

@[simp] theorem State.moveTo_mem (s : State) (new : AcqState) (w : List FrameRecord) :
    (s.moveTo new w).frames.mem = s.frames.mem :=
  (acqWork_moveTo s new w).mem_eq

@[simp] theorem State.canvasChanged_mem (s : State) : s.canvasChanged.frames.mem = s.frames.mem :=
  (acqWork_newCanvas s).mem_eq

@[simp] theorem State.changeShowing_mem (s : State) (b : Option BufNo) :
    (s.changeShowing b).frames.mem = s.frames.mem := by
  unfold State.changeShowing
  split <;> rfl

@[simp] theorem State.countSlip_mem (s : State) : s.countSlip.frames.mem = s.frames.mem := by
  unfold State.countSlip
  dsimp only
  split <;> simp

@[simp] theorem State.handBase_mem (s : State) : s.handBase.frames.mem = s.frames.mem := by
  unfold State.handBase
  split <;> rfl

@[simp] theorem State.beginWrite_mem (s : State) : s.beginWrite.frames.mem = s.frames.mem := by
  unfold State.beginWrite
  repeat' split
  all_goals rfl

/-- No taker of a start writes frame memory. -/
@[simp] theorem State.take_mem (s : State) (align : Bool) (t : Taker) :
    (s.take align t).frames.mem = s.frames.mem := by
  cases t with
  | frameStore =>
    rw [State.take]
    unfold State.selectFrame State.showExpected
    dsimp only
    repeat' split
    all_goals simp
  | bank =>
    rw [State.take]
    unfold State.bankStart State.swap
    dsimp only
    repeat' split
    all_goals simp
  | master =>
    rw [State.take]
    unfold State.masterStart
    dsimp only
    split
    · simp [State.enterStandby, State.standbyInput]
    · rfl
  | acquisition =>
    rw [State.take]
    split
    · rfl
    · exact (acqWork_acquisitionStart s).mem_eq
  | write =>
    rw [State.take]
    split <;> simp
  | _ => simp [State.take]

@[simp] theorem State.deliver_mem (s : State) (align : Bool) (env : Env) :
    (s.deliver align env).frames.mem = s.frames.mem := by
  unfold State.deliver
  dsimp only
  rw [(State.probeServe_frame _).2.2.1]
  exact List.foldlRecOn (motive := fun u : State => u.frames.mem = s.frames.mem) (takeOrder env.order) _ rfl
    fun u hu t _ => by simpa using hu

@[simp] theorem State.wakeUp_mem (s : State) (env : Env) : (s.wakeUp env).frames.mem = s.frames.mem := by
  unfold State.wakeUp State.wakeStart
  split <;> simp

@[simp] theorem State.loseInput_mem (s : State) : s.loseInput.frames.mem = s.frames.mem := by
  obtain ⟨t, hwork, heq⟩ := loseInput_work s
  rw [heq]
  exact hwork.mem_eq

@[simp] theorem State.guardBefore_mem (s : State) (time : Nat) :
    (s.guardBefore time).frames.mem = s.frames.mem := by
  unfold State.guardBefore
  repeat' split
  all_goals simp

@[simp] theorem State.inputStart_mem (s : State) (time : Nat) (env : Env) :
    (s.inputStart time env).frames.mem = s.frames.mem := by
  have hlocked (u : State) : (u.lockedStart time env).frames.mem = u.frames.mem := by
    unfold State.lockedStart
    dsimp only
    split
    · unfold State.align
      simp
    · rw [State.beginWrite_mem]
      exact (acqWork_countCadence _ time).mem_eq
  have hrecord (u : State) (r : Option FrameRecord) : (u.takeRecord r).frames.mem = u.frames.mem :=
    (acqWork_takeRecord u r).mem_eq
  unfold State.inputStart
  dsimp only
  repeat' split
  all_goals simp [hlocked, hrecord, State.tearFrame]

/-- R24: a completed write converts the frame; nothing else writes frame memory at an input frame end. -/
theorem State.PicturesCanonical.inputEnd {s : State} (h : s.PicturesCanonical) (frame : InputFrame) :
    (s.inputEnd frame).PicturesCanonical := by
  unfold State.inputEnd
  dsimp only
  repeat' split
  · exact h
  · exact h
  · exact h
  · next w _ _ =>
    intro b
    by_cases hb : b = w.buf
    · subst hb
      simpa [State.completeWrite] using convertFrame_wf frame w.table
    · simpa [State.completeWrite, Three.get_set_other _ _ _ _ hb] using h b
  · exact h.of_eq (by simp [State.tearFrame])

@[simp] theorem State.applyInputControls_mem (s : State) (c : InputControls) :
    (s.applyInputControls c).frames.mem = s.frames.mem :=
  (acqWork_applyInputControls s c).mem_eq

@[simp] theorem State.boot_mem (s : State) : s.boot.frames.mem = s.frames.mem := by
  rcases s.boot_cases with ⟨_, e⟩ | ⟨n, _, _, e⟩ | ⟨n, p, _, _, _, e⟩ | ⟨n, _, _, _, _, e⟩
  · simp [e]
  · simp [e]
  · rw [e]
    unfold State.bootLoad
    dsimp only
    split <;> simp
  · simp [e]

/-- What the changes leave of frame memory: all but the end of a written frame leave it whole. -/
theorem Change.keeps_pictures {s t : State} (hc : Change s t) (h : s.PicturesCanonical) :
    t.PicturesCanonical := by
  cases hc with
  | frameEnd frame => exact h.inputEnd frame
  | restart => exact h
  | _ =>
    refine h.of_eq ?_
    simp [State.startDimming, State.editScene, State.timerStart, State.acquireTimeout, State.finishScan]

/-! ### Every step -/

theorem Change.keeps_buffersSound {s t : State} (hc : Change s t) (h : s.BuffersSound) :
    t.BuffersSound := by
  cases hc with
  | restart => exact State.buffersSound_of_empty rfl rfl
  | wakeUp env => exact h.wakeUp env
  | timerStart env => exact h.timerStart env
  | loseInput => exact h.loseInput.of_frame rfl rfl rfl
  | frameStart time env => exact (h.inputStart time env).of_frame rfl rfl rfl
  | frameEnd frame => exact (h.inputEnd frame).of_frame rfl rfl rfl
  | acquireTimeout =>
    have hposted : ((s.post (.acquireTimeout s.acq.state)).flagAcqTimeout).BuffersSound :=
      h.of_frame (by simp) (by simp) (by simp)
    exact (hposted.moveTo _ _).of_frame rfl rfl rfl
  | scan =>
    have hboot : (s.scanRest.onProfiles (ProfileStore.setCtl .idle)).boot.BuffersSound :=
      State.BuffersSound.boot (h.of_frame (by simp) (by simp) (by simp))
    exact hboot.of_frame rfl rfl rfl
  | inputControls c =>
    have hset : (s.applyInputControls c).BuffersSound := by
      refine State.BuffersSound.acqWork ?_ (acqWork_applyInputControls s c)
      exact h.of_frame rfl rfl rfl
    exact hset.of_frame rfl rfl rfl
  | acceptInput => exact (h.moveTo _ _).of_frame rfl rfl rfl
  | _ =>
    refine h.of_frame ?_ ?_ ?_
    all_goals simp [State.startDimming, State.editScene]

/-- Settles O8: every change keeps both relations. -/
theorem everyStepKeepsTheBuffersSound : Obligations.EveryStepKeepsTheBuffersSound :=
  fun _ _ hbuffers hpictures hstep =>
    step_keeps (P := fun s => s.BuffersSound ∧ s.PicturesCanonical)
      (fun _ _ h => ⟨h.1.of_frame rfl rfl rfl, h.2⟩)
      (fun _ _ hc h => ⟨hc.keeps_buffersSound h.1, hc.keeps_pictures h.2⟩) ⟨hbuffers, hpictures⟩ hstep

end Sys2Proof.Machine
end

section
/-! PROOFS. Chapters 7 and 8, what a change leaves in the banks and in the profile store: the swap at a start
(R141, R142), the boot load (R165), and the profiles that areas and operations hold. -/

namespace Sys2Proof.Machine

/-! ### The banks by role (R127) -/

@[simp] theorem Banks.setPending_active (b : Banks) (st : BankStore) : (b.setPending st).active = b.active := by
  unfold Banks.setPending Banks.active
  split <;> simp_all

@[simp] theorem Banks.setPending_pending (b : Banks) (st : BankStore) : (b.setPending st).pending = st := by
  unfold Banks.setPending Banks.pending
  split <;> simp_all

@[simp] theorem Banks.setPending_pendState (b : Banks) (st : BankStore) :
    (b.setPending st).pendState = b.pendState := by
  unfold Banks.setPending
  split <;> rfl

@[simp] theorem Banks.setPending_revision (b : Banks) (st : BankStore) :
    (b.setPending st).revision = b.revision := by
  unfold Banks.setPending
  split <;> rfl

/-- The roles do not look at revision and pending state. -/
@[simp] theorem Banks.setPending_rest_active (b : Banks) (st : BankStore) (r : BitVec 16) (p : PendState) :
    (Banks.mk (b.setPending st).store0 (b.setPending st).store1 (b.setPending st).activeIsOne r p).active =
      b.active :=
  b.setPending_active st

@[simp] theorem Banks.setPending_rest_pending (b : Banks) (st : BankStore) (r : BitVec 16) (p : PendState) :
    (Banks.mk (b.setPending st).store0 (b.setPending st).store1 (b.setPending st).activeIsOne r p).pending =
      st :=
  b.setPending_pending st

@[simp] theorem Scene.derived_scene (sc : Scene) : sc.derived.scene = sc := rfl

/-- R142: a swap exchanges the roles. -/
@[simp] theorem Banks.swapped_active (b : Banks) : b.swapped.active = b.pending := by
  unfold Banks.swapped Banks.active Banks.pending
  cases b.activeIsOne <;> rfl

@[simp] theorem Banks.swapped_pending (b : Banks) : b.swapped.pending = b.active := by
  unfold Banks.swapped Banks.active Banks.pending
  cases b.activeIsOne <;> rfl

/-- R152: both roles hold the profile's scene after a boot load. -/
@[simp] theorem Banks.booted_active (b : Banks) (p : Profile) : (b.booted p).active = p.scene.derived := by
  unfold Banks.booted Banks.active
  split <;> rfl

@[simp] theorem Banks.booted_pending (b : Banks) (p : Profile) : (b.booted p).pending = p.scene.derived := by
  unfold Banks.booted Banks.pending
  split <;> rfl

/-! ### The swap at a start (R141) -/

@[simp] theorem State.swap_banks (s : State) : s.swap.banks = s.banks.swapped := by
  unfold State.swap
  dsimp only
  split <;> split <;> simp

theorem State.take_banks (s : State) (align : Bool) (t : Taker) :
    (s.take align t).banks = if t = .bank ∧ s.swapDue = true then s.banks.swapped else s.banks := by
  cases t with
  | bank =>
    rw [State.take, State.bankStart]
    cases s.swapDue <;> simp
  | acquisition | write =>
    rw [State.take]
    split <;> simp
  | _ => simp [State.take]

theorem State.swapDue_of_eq {s t : State} (hbanks : t.banks = s.banks) (hprofiles : t.profiles = s.profiles) :
    t.swapDue = s.swapDue := by
  rw [State.swapDue, State.swapDue, hbanks, hprofiles]

/-- R142: after a swap none is due. -/
theorem State.not_swapDue_of_swapped {s t : State} (hbanks : t.banks = s.banks.swapped) :
    t.swapDue = false := by
  simp [State.swapDue, hbanks, Banks.swapped]

theorem State.takeAll_banks (align : Bool) (order : List Taker) (s : State) :
    (order.foldl (fun s t => (s.take align t).retarget) s).banks =
      if .bank ∈ order ∧ s.swapDue = true then s.banks.swapped else s.banks := by
  induction order generalizing s with
  | nil => simp
  | cons t ts ih =>
    rw [List.foldl_cons, ih, State.retarget_banks]
    have hbanks := s.take_banks align t
    by_cases hnow : t = .bank ∧ s.swapDue = true
    · rw [if_pos hnow] at hbanks
      have hdone : (s.take align t).retarget.swapDue = false :=
        State.not_swapDue_of_swapped hbanks
      rw [hdone, if_neg (by simp), hbanks, if_pos ⟨by simp [hnow.1], hnow.2⟩]
    · rw [if_neg hnow] at hbanks
      have hdue : (s.take align t).retarget.swapDue = s.swapDue :=
        State.swapDue_of_eq hbanks (by simp)
      rw [hdue, hbanks]
      by_cases ht : t = .bank
      · have hnot : s.swapDue = false := by simpa [ht] using hnow
        simp [hnot]
      · have hne : ¬ (Taker.bank = t) := fun e => ht e.symm
        simp [hne]

/-- R141: a start swaps the banks exactly where a swap is due. -/
theorem State.deliver_banks (s : State) (align : Bool) (env : Env) :
    (s.deliver align env).banks = if s.swapDue = true then s.banks.swapped else s.banks := by
  unfold State.deliver
  dsimp only
  rw [(State.probeServe_frame _).2.2.2.2.2.2.1, State.takeAll_banks]
  simp only [mem_takeOrder, true_and]
  rfl

theorem State.swapDue_armed {s : State} (h : s.swapDue = true) : s.banks.pendState = .armed := by
  unfold State.swapDue at h
  simp_all

/-- What a start can do to the banks. -/
def State.SwapOnly (s t : State) : Prop :=
  t.banks = s.banks ∨ s.banks.pendState = .armed ∧ t.banks = s.banks.swapped

theorem State.deliver_swapOnly (s : State) (align : Bool) (env : Env) :
    State.SwapOnly s (s.deliver align env) := by
  have h := s.deliver_banks align env
  split at h
  · next hdue => exact .inr ⟨State.swapDue_armed hdue, h⟩
  · exact .inl h

theorem State.timerStart_swapOnly (s : State) (env : Env) : State.SwapOnly s (s.timerStart env) := by
  unfold State.timerStart
  simpa [State.SwapOnly] using State.deliver_swapOnly (State.handBase _) false env

theorem State.wakeUp_swapOnly (s : State) (env : Env) : State.SwapOnly s (s.wakeUp env) := by
  unfold State.wakeUp
  split
  · exact .inl (by simp)
  · unfold State.wakeStart
    simpa [State.SwapOnly] using State.deliver_swapOnly (State.handBase _) false env
  · exact .inl rfl

theorem State.inputStart_swapOnly (s : State) (time : Nat) (env : Env) :
    State.SwapOnly s (s.inputStart time env) := by
  have hlocked (u : State) (hu : u.banks = s.banks) : State.SwapOnly s (u.lockedStart time env) := by
    unfold State.lockedStart
    dsimp only
    split
    · unfold State.align
      simpa [State.SwapOnly, hu] using State.deliver_swapOnly _ true env
    · exact .inl (by simp [hu])
  have hguard : (s.guardBefore time).banks = s.banks := by simp
  unfold State.inputStart
  dsimp only
  repeat' split
  · exact .inl (by simp)
  · exact .inl (by simp)
  · exact hlocked _ hguard
  · exact .inl (by simp)
  · exact hlocked _ hguard
  · exact .inl (by simp)

/-! ### The boot load (R152, R165) -/

/-- R165: the boot choice leaves the banks, or loads a stored profile into both. -/
theorem State.boot_banks (s : State) : s.boot.banks = s.banks ∨
    ∃ n p, (s.profiles.area n).profile? = some p ∧ s.boot.banks = s.banks.booted p := by
  rcases s.boot_cases with ⟨_, e⟩ | ⟨n, _, _, e⟩ | ⟨n, p, _, _, hp, e⟩ | ⟨n, _, _, _, _, e⟩
  · exact .inl (by simp [e])
  · exact .inl (by simp [e])
  · refine .inr ⟨n, p, hp, ?_⟩
    rw [e]
    unfold State.bootLoad
    dsimp only
    split <;> simp
  · exact .inl (by simp [e])

theorem State.boot_profiles (s : State) : s.boot.profiles = s.profiles ∨
    s.boot.profiles = { s.profiles with boot := none } := by
  rcases s.boot_cases with ⟨_, e⟩ | ⟨n, _, _, e⟩ | ⟨n, p, _, _, _, e⟩ | ⟨n, _, _, _, _, e⟩
  · exact .inl (by simp [e])
  · exact .inr (by simp [e])
  · exact .inl (by simp [e])
  · exact .inl (by simp [e])

/-! ### The profiles that are stored -/

section Stored

variable (Q : Profile → Prop)

/-- What an area holds of a profile satisfies `Q`. -/
def AreaHolds (a : Area) : Prop := ∀ p, a.profile? = some p → Q p

/-- What an operation in flight holds of a profile satisfies `Q`. -/
def CtlHolds : Ctl → Prop
  | .storing _ image _ => Q image
  | .erasing _ erased _ => AreaHolds Q erased
  | _ => True

/-- Every profile that is stored, in an area or by the operation in flight, satisfies `Q`. -/
structure StoreHolds (p : ProfileStore) : Prop where
  areas : ∀ a ∈ p.flash.areas, AreaHolds Q a
  ctl   : CtlHolds Q p.ctl

variable {Q} {p : ProfileStore}

theorem areaHolds_blank : AreaHolds Q .blank := by
  intro p hp
  simp [Area.profile?] at hp

/-- An area that holds what another holds. -/
theorem AreaHolds.of_profile {a b : Area} (h : AreaHolds Q a) (hb : b.profile? = a.profile?) :
    AreaHolds Q b := by
  intro q hq
  exact h q (hb ▸ hq)

theorem StoreHolds.area (h : StoreHolds Q p) (n : ProfileNo) : AreaHolds Q (p.area n) := by
  unfold ProfileStore.area
  rw [List.getD_eq_getElem?_getD]
  cases ha : p.flash.areas[n.val]? with
  | none => exact areaHolds_blank
  | some a => exact h.areas a (List.mem_of_getElem? ha)

/-- The relation looks at areas and controller only. -/
theorem StoreHolds.of_eq {q : ProfileStore} (h : StoreHolds Q p) (hareas : q.flash.areas = p.flash.areas)
    (hctl : q.ctl = p.ctl) : StoreHolds Q q :=
  ⟨hareas ▸ h.areas, hctl ▸ h.ctl⟩

theorem StoreHolds.setArea (h : StoreHolds Q p) (n : ProfileNo) {a : Area} (ha : AreaHolds Q a) :
    StoreHolds Q (p.setArea n a) where
  areas := fun b hb => by
    rcases List.mem_or_eq_of_mem_set hb with hb | rfl
    · exact h.areas b hb
    · exact ha
  ctl := h.ctl

theorem StoreHolds.setCtl (h : StoreHolds Q p) {c : Ctl} (hc : CtlHolds Q c) : StoreHolds Q (p.setCtl c) :=
  ⟨h.areas, hc⟩

@[simp] theorem ProfileStore.setCopy_areas (p : ProfileStore) (c : Bool) (d : DirCopy) (passes : Bool) :
    (p.setCopy c d passes).flash.areas = p.flash.areas := by
  unfold ProfileStore.setCopy
  split <;> rfl

@[simp] theorem ProfileStore.setCopy_ctl (p : ProfileStore) (c : Bool) (d : DirCopy) (passes : Bool) :
    (p.setCopy c d passes).ctl = p.ctl := by
  unfold ProfileStore.setCopy
  split <;> rfl

theorem StoreHolds.beginDirectory (h : StoreHolds Q p) : StoreHolds Q p.beginDirectory :=
  h.of_eq (by simp [ProfileStore.beginDirectory]) (by simp [ProfileStore.beginDirectory])

theorem StoreHolds.endDirectory (h : StoreHolds Q p) (written : Bool) (boot : Option ProfileNo)
    (counts : List Nat) : StoreHolds Q (p.endDirectory written boot counts) :=
  h.of_eq (by simp [ProfileStore.endDirectory]) (by simp [ProfileStore.endDirectory])

/-- R162: the image of a store, held by the controller, is what its area holds. -/
theorem StoreHolds.beginDirectoryPhase (h : StoreHolds Q p) : StoreHolds Q p.beginDirectoryPhase := by
  have hctl := h.ctl
  unfold ProfileStore.beginDirectoryPhase
  split
  · next n image heq =>
    rw [heq] at hctl
    have himage : AreaHolds Q (.held image) := by
      rintro q ⟨⟩
      exact hctl
    exact ((h.setArea n himage).beginDirectory).setCtl hctl
  · next n erased heq =>
    rw [heq] at hctl
    exact ((h.setArea n areaHolds_blank).beginDirectory).setCtl hctl
  · exact h

theorem StoreHolds.endStore (h : StoreHolds Q p) (n : ProfileNo) (image : Profile) (verified written : Bool) :
    StoreHolds Q (p.endStore n image verified written) := by
  have hended := h.endDirectory written p.boot (raiseCount n p.counts)
  refine StoreHolds.setCtl (c := .idle) ?_ trivial
  exact hended.of_eq rfl rfl

theorem Area.blankingOf_profile (a : Area) : a.blankingOf.profile? = a.profile? := by
  cases a <;> rfl

theorem Area.leftNotBlank_profile (a : Area) : a.leftNotBlank.profile? = a.profile? := by
  cases a <;> rfl

theorem StoreHolds.endErase (h : StoreHolds Q p) (n : ProfileNo) {erased : Area} (he : AreaHolds Q erased)
    (blank written : Bool) : StoreHolds Q (p.endErase n erased blank written) := by
  have hended := h.endDirectory written (bootWithout n p.boot) p.counts
  unfold ProfileStore.endErase
  dsimp only
  have hboot : StoreHolds Q (if written = true then
      { p.endDirectory written (bootWithout n p.boot) p.counts with
        boot := bootWithout n (p.endDirectory written (bootWithout n p.boot) p.counts).boot }
      else p.endDirectory written (bootWithout n p.boot) p.counts) := by
    split
    · exact hended.of_eq rfl rfl
    · exact hended
  refine StoreHolds.setCtl (c := .idle) ?_ trivial
  split
  · exact hboot.of_eq rfl rfl
  · exact (hboot.setArea n (he.of_profile erased.leftNotBlank_profile)).of_eq rfl rfl

theorem StoreHolds.beginStore (h : StoreHolds Q p) (n : ProfileNo) {image : Profile} (hi : Q image) :
    StoreHolds Q (p.beginStore n image) := by
  refine StoreHolds.setCtl (h.setArea n ?_) hi
  rintro q ⟨⟩
  exact hi

theorem StoreHolds.beginErase (h : StoreHolds Q p) (n : ProfileNo) : StoreHolds Q (p.beginErase n) := by
  have harea : AreaHolds Q (p.area n).blankingOf := (h.area n).of_profile (Area.blankingOf_profile _)
  exact (h.setArea n harea).setCtl harea

theorem StoreHolds.beginBoot (h : StoreHolds Q p) (boot : Option ProfileNo) :
    StoreHolds Q (p.beginBoot boot) :=
  h.beginDirectory.setCtl trivial

end Stored

/-! ### The scan leaves what the areas hold (R154, R156) -/

variable {Q : Profile → Prop}

theorem StoreHolds.scanDirectory {s : State} (h : StoreHolds Q s.profiles) (pass0 pass1 : Bool) :
    StoreHolds Q (s.scanDirectory pass0 pass1).profiles := by
  unfold State.scanDirectory
  dsimp only
  split
  · exact h.of_eq (by simp) (by simp)
  · exact h.of_eq rfl rfl

theorem AreaHolds.scanned {a : Area} (h : AreaHolds Q a) (r : AreaReading) :
    AreaHolds Q (scannedArea a r) := by
  rcases scannedArea_profile a r with e | e
  · rw [e]
    exact areaHolds_blank
  · exact h.of_profile e

theorem StoreHolds.scanNext {s : State} (h : StoreHolds Q s.profiles) (r : AreaReading) :
    StoreHolds Q (s.scanNext r).profiles := by
  unfold State.scanNext
  split
  · exact h
  · next n _ =>
    have hset := h.setArea n ((h.area n).scanned r)
    dsimp only
    split
    · exact hset.of_eq (by simp [ProfileStore.setEntry]) (by simp [ProfileStore.setEntry])
    · exact hset.of_eq rfl rfl

theorem StoreHolds.scanStep {s : State} (h : StoreHolds Q s.profiles) (r : ScanReading) :
    StoreHolds Q (s.scanStep r).profiles := by
  unfold State.scanStep
  split
  · split
    · exact h
    · exact h.scanDirectory _ _
  · exact h.scanNext _

theorem StoreHolds.scanRest {s : State} (h : StoreHolds Q s.profiles) : StoreHolds Q s.scanRest.profiles := by
  have hareas (n : Nat) (u : State) (hu : StoreHolds Q u.profiles) :
      StoreHolds Q (State.scanAreas n u).profiles := by
    induction n generalizing u with
    | zero => exact hu
    | succ n ih => exact ih _ (hu.scanNext _)
  exact hareas _ _ (h.scanStep _)

theorem StoreHolds.finishScan {s : State} (h : StoreHolds Q s.profiles) :
    StoreHolds Q s.finishScan.profiles := by
  have hidle : StoreHolds Q (s.scanRest.onProfiles (ProfileStore.setCtl .idle)).profiles :=
    StoreHolds.setCtl (c := .idle) h.scanRest trivial
  have hprofiles := (s.scanRest.onProfiles (ProfileStore.setCtl .idle)).boot_profiles
  show StoreHolds Q (s.scanRest.onProfiles (ProfileStore.setCtl .idle)).boot.profiles
  rcases hprofiles with e | e
  · rw [e]
    exact hidle
  · rw [e]
    exact hidle.of_eq rfl rfl

/-- R143: the stored profiles keep a property that a profile captured now would have. -/
theorem Change.keeps_stored {s t : State} (hc : Change s t) (h : StoreHolds Q s.profiles)
    (hcapture : ∀ revision label, Q (s.captureProfile revision label)) : StoreHolds Q t.profiles := by
  cases hc with
  | restart => exact ⟨h.areas, trivial⟩
  | load n arm good =>
    unfold State.finishLoad
    dsimp only
    have hidle : StoreHolds Q (s.profiles.setCtl .idle) := h.setCtl trivial
    split
    · exact hidle.of_eq (by simp) (by simp)
    · exact hidle.of_eq (by simp [ProfileStore.setHeld, ProfileStore.setEntry])
        (by simp [ProfileStore.setHeld, ProfileStore.setEntry])
  | store n image begun verified written =>
    unfold State.finishStore
    have hended := h.beginDirectoryPhase.endStore n image verified written
    dsimp only
    split
    · exact hended.of_eq (by simp) (by simp)
    · exact hended.of_eq (by simp) (by simp)
  | erase n erased begun blank written hctl =>
    unfold State.finishErase
    have herased : AreaHolds Q erased := by
      have hheld := h.ctl
      rw [hctl] at hheld
      exact hheld
    have hended := h.beginDirectoryPhase.endErase n herased blank written
    dsimp only
    split
    · exact hended.of_eq (by simp) (by simp)
    · exact hended.of_eq (by simp) (by simp)
  | bootWrite boot written =>
    unfold State.finishBootWrite
    have hended := StoreHolds.setCtl (c := .idle) (h.endDirectory written boot s.profiles.counts) trivial
    dsimp only
    split
    · exact hended.of_eq (by simp) (by simp)
    · exact hended.of_eq (by simp) (by simp)
  | scan => exact h.finishScan
  | scanStep r => exact h.scanStep r
  | directoryBegin => exact h.beginDirectoryPhase
  | beginLoad n arm => exact h.setCtl trivial
  | beginStore n revision label => exact h.beginStore n (hcapture revision label)
  | beginErase n => exact h.beginErase n
  | beginBoot boot => exact h.beginBoot boot
  | _ => exact h.of_eq (by simp [State.startDimming, State.editScene]) (by simp [State.startDimming, State.editScene])

end Sys2Proof.Machine
end

section
/-! PROOFS. Chapter 7, the scenes of banks and profiles (R138, R143, R45, R128): valid under the commit checks
where a swap could show them, and every field in its range. -/

namespace Sys2Proof.Machine

/-! ### The decode check (R84, R137) -/

/-- R84: no entry is smaller than the one before it. -/
theorem firstFall_eq_none (i : Nat) (l : List Nat) : firstFall i l = none ↔ l.IsChain (· ≤ ·) := by
  induction l generalizing i with
  | nil => simp [firstFall]
  | cons a rest ih =>
    cases rest with
    | nil => simp [firstFall]
    | cons b rest =>
      rw [firstFall, List.isChain_cons_cons]
      split
      · next h => simp [Nat.not_le.2 h]
      · next h => simp [ih, Nat.not_lt.1 h]

/-- R84: the default decode table rises. -/
theorem defaultDecode_rises (i : Nat) : firstFall i defaultDecode = none := by
  rw [firstFall_eq_none]
  refine List.Pairwise.isChain (List.pairwise_map.2 ?_)
  exact List.pairwise_le_range.imp fun h => by omega

/-- R129, R138: the default scene passes every commit check. -/
theorem defaultScene_valid : defaultScene.valid = true := by
  have hrecords : outputs.find? (fun k => decide (Config.meshRecords < defaultScene.recordsUsed k)) = none := by
    decide
  have hbounds : outputs.find? (fun k =>
      (defaultScene.outs.get k).coverage.outOfBounds defaultScene.canvasW defaultScene.canvasH) = none := by
    decide
  have hfeathers : outputs.find? (fun k => (defaultScene.outs.get k).coverage.featherTooWide) = none := by
    decide
  simp only [Scene.valid, Scene.commitFault, hrecords, hbounds, hfeathers]
  rw [show defaultScene.decode = defaultDecode from rfl, defaultDecode_rises]
  rfl

/-! ### Scenes that pass every check (R138, R143) -/

theorem Ctl.valid_iff (c : Ctl) : c.Valid ↔ CtlHolds (fun p => p.scene.valid = true) c := by
  cases c <;> exact Iff.rfl

theorem State.scenesValid_iff (s : State) : s.ScenesValid ↔
    s.active.scene.valid = true ∧ (s.banks.pendState = .armed → s.pendingBank.scene.valid = true) ∧
    StoreHolds (fun p => p.scene.valid = true) s.profiles :=
  ⟨fun h => ⟨h.active, h.armed, h.areas, (Ctl.valid_iff _).1 h.ctl⟩,
    fun ⟨hactive, harmed, hstored⟩ => ⟨hactive, harmed, hstored.areas, (Ctl.valid_iff _).2 hstored.ctl⟩⟩

/-- What the banks' part of the relation says. -/
def Banks.Valid (b : Banks) : Prop :=
  b.active.scene.valid = true ∧ (b.pendState = .armed → b.pending.scene.valid = true)

theorem Banks.Valid.of_swapOnly {s t : State} (h : s.banks.Valid) (hswap : State.SwapOnly s t) :
    t.banks.Valid := by
  rcases hswap with e | ⟨harmed, e⟩
  · rwa [e]
  · rw [e]
    refine ⟨?_, ?_⟩
    · rw [Banks.swapped_active]
      exact h.2 harmed
    · simp [Banks.swapped]

/-- The active bank stays and the pending one is not ARMED. -/
theorem Banks.Valid.of_unarmed {b c : Banks} (h : b.Valid) (hactive : c.active = b.active)
    (hstate : c.pendState ≠ .armed) : c.Valid :=
  ⟨hactive ▸ h.1, fun harmed => absurd harmed hstate⟩

theorem Banks.Valid.booted {b : Banks} {p : Profile} (hp : p.scene.valid = true) : (b.booted p).Valid := by
  refine ⟨?_, ?_⟩
  · rw [Banks.booted_active]
    exact hp
  · simp [Banks.booted]

theorem Change.keeps_banksValid {s t : State} (hc : Change s t) (h : s.banks.Valid)
    (hstored : StoreHolds (fun p => p.scene.valid = true) s.profiles) : t.banks.Valid := by
  cases hc with
  | restart => exact ⟨defaultScene_valid, by simp [State.restart, State.reset, resetBanks]⟩
  | wakeUp env => exact h.of_swapOnly (s.wakeUp_swapOnly env)
  | timerStart env => exact h.of_swapOnly (s.timerStart_swapOnly env)
  | frameStart time env => exact h.of_swapOnly (s.inputStart_swapOnly time env)
  | copyBack => exact h.of_unarmed (by simp [State.finishCopyBack]) (by simp [State.finishCopyBack])
  | load n arm good =>
    unfold State.finishLoad
    dsimp only
    split
    · next p hp =>
      refine ⟨?_, fun _ => ?_⟩
      · simpa using h.1
      · simpa using hstored.area n p hp
    · exact h.of_unarmed (by simp) (by simp)
  | scan =>
    have hbanks := (s.scanRest.onProfiles (ProfileStore.setCtl .idle)).boot_banks
    have hscanned := hstored.scanRest
    show (s.scanRest.onProfiles (ProfileStore.setCtl .idle)).boot.banks.Valid
    rcases hbanks with e | ⟨n, p, hp, e⟩
    · rw [e]
      simpa using h
    · rw [e]
      exact Banks.Valid.booted (hscanned.area n p hp)
  | edit f heditable =>
    refine h.of_unarmed ?_ ?_
    · simp [State.editScene]
    · simp [State.editScene, heditable]
  | commit hvalid =>
    refine ⟨?_, fun _ => ?_⟩
    · simpa using h.1
    · simpa [Scene.derived] using hvalid
  | release p hp => exact h.of_unarmed rfl hp
  | _ => simpa [State.startDimming] using h

/-- Settles O9: every change keeps the relation. -/
theorem everyStepKeepsTheScenesValid : Obligations.EveryStepKeepsTheScenesValid := by
  intro s t h hstep
  refine step_keeps (P := State.ScenesValid) (fun _ _ h => ⟨h.active, h.armed, h.areas, h.ctl⟩) ?_ h hstep
  intro s t hc h
  obtain ⟨hactive, harmed, hstored⟩ := s.scenesValid_iff.1 h
  have hbanks := hc.keeps_banksValid ⟨hactive, harmed⟩ hstored
  exact t.scenesValid_iff.2 ⟨hbanks.1, hbanks.2, hc.keeps_stored hstored fun _ _ => hactive⟩

/-! ### Every field in its range (R45, R128) -/

/-- R43, R45, R129: the default mesh is in range. -/
theorem defaultPoints_inRange : ∀ p ∈ defaultPoints, p.InRange := by
  intro p hp
  obtain ⟨n, hn, rfl⟩ := List.mem_map.1 hp
  have hn : n < 1200 := List.mem_range.1 hn
  constructor
  all_goals simp only [defaultPoint, Config.minCoord, Config.maxCoord, Config.maxMeshGain]
  all_goals omega

theorem defaultPoints_length : defaultPoints.length = Config.meshRecords :=
  (List.length_map _).trans List.length_range

theorem defaultEncode_length : defaultEncode.length = Config.tableEntries :=
  (List.length_map _).trans List.length_range

theorem defaultDecode_length : defaultDecode.length = Config.tableEntries :=
  (List.length_map _).trans List.length_range

theorem defaultOutput_points : defaultOutput.points = defaultPoints := by simp only [defaultOutput]

theorem defaultOutput_encode : defaultOutput.encode = defaultEncode := by simp only [defaultOutput]

theorem defaultScene_decode : defaultScene.decode = defaultDecode := by simp only [defaultScene]

theorem defaultOutput_inRange : defaultOutput.InRange where
  pitch := by decide
  records := by rw [defaultOutput_points, defaultPoints_length]
  points := by
    rw [defaultOutput_points]
    exact defaultPoints_inRange
  coverage := by constructor <;> decide
  tone := ⟨⟨by decide, by decide, by decide⟩, by decide, by decide, by decide⟩
  entries := by rw [defaultOutput_encode, defaultEncode_length]
  encode := by
    intro e he
    obtain ⟨i, _, rfl⟩ := List.mem_map.1 he
    exact min_le_left _ _

theorem defaultScene_inRange : defaultScene.InRange where
  canvasW := by decide
  canvasH := by decide
  rasterW := by decide
  rasterH := by decide
  ceiling := by decide
  entries := by rw [defaultScene_decode, defaultDecode_length]
  decode := by
    intro e he
    obtain ⟨i, _, rfl⟩ := List.mem_map.1 he
    exact min_le_left _ _
  outs := fun k => by
    rw [defaultScene, Four.get_all]
    exact defaultOutput_inRange

/-- A mixture of two scenes takes each field from one of the two (R151). -/
theorem mix_cases {α : Type} (pick : Nat → Bool) (i : Nat) (old new : α) :
    mix pick i old new = old ∨ mix pick i old new = new := by
  unfold mix
  split
  · exact .inr rfl
  · exact .inl rfl

theorem mix_property {α : Type} {p : α → Prop} (pick : Nat → Bool) (i : Nat) {old new : α} (ho : p old)
    (hn : p new) : p (mix pick i old new) := by
  rcases mix_cases pick i old new with e | e
  · rwa [e]
  · rwa [e]

theorem mixList_length {α : Type} (pick : Nat → Bool) (i : Nat) (old new : List α) :
    (mixList pick i old new).length = old.length := by
  induction old generalizing i new with
  | nil => cases new <;> rfl
  | cons o os ih =>
    cases new with
    | nil => rfl
    | cons n ns => simp [mixList, ih]

theorem mixList_property {α : Type} {p : α → Prop} (pick : Nat → Bool) (i : Nat) {old new : List α}
    (ho : ∀ x ∈ old, p x) (hn : ∀ x ∈ new, p x) : ∀ x ∈ mixList pick i old new, p x := by
  induction old generalizing i new with
  | nil => cases new <;> simp [mixList]
  | cons o os ih =>
    cases new with
    | nil => simpa [mixList] using ho
    | cons n ns =>
      simp only [mixList, List.mem_cons, forall_eq_or_imp] at ho hn ⊢
      exact ⟨mix_property pick i ho.1 hn.1, ih (i + 1) ho.2 hn.2⟩

theorem mixCoverage_inRange (pick : Nat → Bool) (i : Nat) {o n : Coverage} (ho : o.InRange)
    (hn : n.InRange) : (mixCoverage pick i o n).InRange where
  left := mix_property (p := (· ≤ Config.maxCanvasW)) _ _ ho.left hn.left
  right := mix_property (p := (· ≤ Config.maxCanvasW)) _ _ ho.right hn.right
  top := mix_property (p := (· ≤ Config.maxCanvasH)) _ _ ho.top hn.top
  bottom := mix_property (p := (· ≤ Config.maxCanvasH)) _ _ ho.bottom hn.bottom
  fLeft := mix_property (p := (· ≤ Config.maxFeather)) _ _ ho.fLeft hn.fLeft
  fRight := mix_property (p := (· ≤ Config.maxFeather)) _ _ ho.fRight hn.fRight
  fTop := mix_property (p := (· ≤ Config.maxFeather)) _ _ ho.fTop hn.fTop
  fBottom := mix_property (p := (· ≤ Config.maxFeather)) _ _ ho.fBottom hn.fBottom

theorem mixRgb_atMost (pick : Nat → Bool) (i : Nat) {o n : Rgb} {m : Nat} (ho : o.AtMost m)
    (hn : n.AtMost m) : (mixRgb pick i o n).AtMost m := by
  obtain ⟨hor, hog, hob⟩ := ho
  obtain ⟨hnr, hng, hnb⟩ := hn
  exact ⟨mix_property (p := (· ≤ m)) _ _ hor hnr, mix_property (p := (· ≤ m)) _ _ hog hng,
    mix_property (p := (· ≤ m)) _ _ hob hnb⟩

theorem mixOutput_inRange (pick : Nat → Bool) (i : Nat) {o n : OutputScene} (ho : o.InRange)
    (hn : n.InRange) : (mixOutput pick i o n).InRange where
  pitch := mix_property (p := fun x => x = 16 ∨ x = 32 ∨ x = 64 ∨ x = 128) _ _ ho.pitch hn.pitch
  records := (mixList_length _ _ _ _).trans ho.records
  points := mixList_property _ _ ho.points hn.points
  coverage := mixCoverage_inRange _ _ ho.coverage hn.coverage
  tone := ⟨mixRgb_atMost _ _ ho.tone.1 hn.tone.1, mixRgb_atMost _ _ ho.tone.2 hn.tone.2⟩
  entries := (mixList_length _ _ _ _).trans ho.entries
  encode := mixList_property _ _ ho.encode hn.encode

/-- R151: the mixture that a failed load leaves is in range. -/
theorem mixScene_inRange (pick : Nat → Bool) {o n : Scene} (ho : o.InRange) (hn : n.InRange) :
    (mixScene pick o n).InRange where
  canvasW := mix_property (p := fun x => Config.minWidth ≤ x ∧ x ≤ Config.maxCanvasW) _ _ ho.canvasW hn.canvasW
  canvasH := mix_property (p := fun x => Config.minHeight ≤ x ∧ x ≤ Config.maxCanvasH) _ _ ho.canvasH hn.canvasH
  rasterW := mix_property (p := fun x => Config.minWidth ≤ x ∧ x ≤ Config.maxRasterW) _ _ ho.rasterW hn.rasterW
  rasterH := mix_property (p := fun x => Config.minHeight ≤ x ∧ x ≤ Config.maxRasterH) _ _ ho.rasterH hn.rasterH
  ceiling := mix_property (p := fun x => 1 ≤ x ∧ x ≤ Config.maxCeiling) _ _ ho.ceiling hn.ceiling
  entries := (mixList_length _ _ _ _).trans ho.entries
  decode := mixList_property _ _ ho.decode hn.decode
  outs := (Four.forall_get _ OutputScene.InRange).2
    ⟨mixOutput_inRange _ _ (ho.outs 0) (hn.outs 0), mixOutput_inRange _ _ (ho.outs 1) (hn.outs 1),
      mixOutput_inRange _ _ (ho.outs 2) (hn.outs 2), mixOutput_inRange _ _ (ho.outs 3) (hn.outs 3)⟩

theorem Ctl.inRange_iff (c : Ctl) : c.InRange ↔ CtlHolds (fun p => p.scene.InRange) c := by
  cases c <;> exact Iff.rfl

theorem State.banksInRange_iff (s : State) : s.BanksInRange ↔
    s.active.scene.InRange ∧ s.pendingBank.scene.InRange ∧
    StoreHolds (fun p => p.scene.InRange) s.profiles :=
  ⟨fun h => ⟨h.active, h.pending, h.areas, (Ctl.inRange_iff _).1 h.ctl⟩,
    fun ⟨hactive, hpending, hstored⟩ => ⟨hactive, hpending, hstored.areas, (Ctl.inRange_iff _).2 hstored.ctl⟩⟩

/-- What the banks' part of the relation says. -/
def Banks.InRange (b : Banks) : Prop := b.active.scene.InRange ∧ b.pending.scene.InRange

theorem Banks.InRange.of_swapOnly {s t : State} (h : s.banks.InRange) (hswap : State.SwapOnly s t) :
    t.banks.InRange := by
  rcases hswap with e | ⟨_, e⟩
  · rwa [e]
  · rw [e]
    simpa [Banks.InRange] using h.symm

/-- The active bank stays and the pending one takes a scene in range. -/
theorem Banks.InRange.of_active {b c : Banks} (h : b.InRange) (hactive : c.active = b.active)
    (hpending : c.pending.scene.InRange) : c.InRange :=
  ⟨hactive ▸ h.1, hpending⟩

theorem Change.keeps_banksInRange {s t : State} (hc : Change s t) (h : s.banks.InRange)
    (hstored : StoreHolds (fun p => p.scene.InRange) s.profiles) : t.banks.InRange := by
  cases hc with
  | restart => exact ⟨defaultScene_inRange, defaultScene_inRange⟩
  | wakeUp env => exact h.of_swapOnly (s.wakeUp_swapOnly env)
  | timerStart env => exact h.of_swapOnly (s.timerStart_swapOnly env)
  | frameStart time env => exact h.of_swapOnly (s.inputStart_swapOnly time env)
  | copyBack =>
    refine h.of_active (by simp [State.finishCopyBack]) ?_
    simpa [State.finishCopyBack, State.active] using h.1
  | load n arm good =>
    unfold State.finishLoad
    dsimp only
    split
    · next p hp => exact h.of_active (by simp) (by simpa using hstored.area n p hp)
    · refine h.of_active (by simp) ?_
      have hloaded : (((s.profiles.setCtl .idle).area n).profile?.elim s.pendingBank.scene
          Profile.scene).InRange := by
        cases harea : ((s.profiles.setCtl .idle).area n).profile? with
        | none => exact h.2
        | some p => exact hstored.area n p harea
      simpa [State.pendingBank] using mixScene_inRange _ h.2 hloaded
  | scan =>
    have hbanks := (s.scanRest.onProfiles (ProfileStore.setCtl .idle)).boot_banks
    have hscanned := hstored.scanRest
    show (s.scanRest.onProfiles (ProfileStore.setCtl .idle)).boot.banks.InRange
    rcases hbanks with e | ⟨n, p, hp, e⟩
    · rw [e]
      simpa using h
    · have hscene : p.scene.InRange := hscanned.area n p hp
      rw [e]
      exact ⟨by simpa using hscene, by simpa using hscene⟩
  | edit f _ hf => exact h.of_active (by simp [State.editScene]) (by simpa [State.editScene] using hf h.2)
  | commit => exact h.of_active (by simp) (by simpa [State.pendingBank] using h.2)
  | release p => exact h
  | _ => simpa [State.startDimming] using h

/-- Settles O10: every change keeps the relation. -/
theorem everyStepKeepsTheBanksInRange : Obligations.EveryStepKeepsTheBanksInRange := by
  intro s t h hstep
  refine step_keeps (P := State.BanksInRange) (fun _ _ h => ⟨h.active, h.pending, h.areas, h.ctl⟩) ?_ h hstep
  intro s t hc h
  obtain ⟨hactive, hpending, hstored⟩ := s.banksInRange_iff.1 h
  have hbanks := hc.keeps_banksInRange ⟨hactive, hpending⟩ hstored
  exact t.banksInRange_iff.2 ⟨hbanks.1, hbanks.2, hc.keeps_stored hstored fun _ _ => hactive⟩

end Sys2Proof.Machine
end

section
/-! PROOFS. Chapters 1, 2 and 6, the registers in their ranges (R18, R30, R31, R37, R40, R42, R103). -/

namespace Sys2Proof.Machine

/-- What the relation says of a state but for the profiles that are stored. -/
structure State.Ranged (s : State) : Prop where
  slips     : s.frames.slips ≤ 65535
  threshold : 1 ≤ s.frames.threshold ∧ s.frames.threshold ≤ 65535
  free      : Config.minPeriod ≤ s.timer.free ∧ s.timer.free ≤ Config.maxPeriod
  level     : s.master.level ≤ Config.one
  step      : 1 ≤ s.master.step ∧ s.master.step ≤ Config.one
  target    : s.master.target = 0 ∨ s.master.target = Config.one
  hold      : s.acq.controls.hold ≤ Config.maxHold
  controls  : ∀ k : Output, (s.chans.get k).controls.InRange

theorem Ctl.controlsInRange_iff (c : Ctl) : c.ControlsInRange ↔ CtlHolds Profile.ControlsInRange c := by
  cases c <;> exact Iff.rfl

theorem State.registersInRange_iff (s : State) : s.RegistersInRange ↔
    s.Ranged ∧ StoreHolds Profile.ControlsInRange s.profiles :=
  ⟨fun h => ⟨⟨h.slips, h.threshold, h.free, h.level, h.step, h.target, h.hold, h.controls⟩,
      h.areas, (Ctl.controlsInRange_iff _).1 h.ctl⟩,
    fun ⟨h, hstored⟩ => ⟨h.slips, h.threshold, h.free, h.level, h.step, h.target, h.hold, h.controls,
      hstored.areas, (Ctl.controlsInRange_iff _).2 hstored.ctl⟩⟩

section Ranged

variable {s t : State}

/-- The relation looks at these registers only. -/
theorem State.Ranged.of_eq (h : s.Ranged) (hslips : t.frames.slips = s.frames.slips)
    (hthreshold : t.frames.threshold = s.frames.threshold) (hfree : t.timer.free = s.timer.free)
    (hmaster : t.master = s.master) (hcontrols : t.acq.controls = s.acq.controls)
    (hchans : ∀ k, (t.chans.get k).controls = (s.chans.get k).controls) : t.Ranged where
  slips := hslips ▸ h.slips
  threshold := hthreshold ▸ h.threshold
  free := hfree ▸ h.free
  level := hmaster ▸ h.level
  step := hmaster ▸ h.step
  target := hmaster ▸ h.target
  hold := hcontrols ▸ h.hold
  controls := fun k => hchans k ▸ h.controls k

theorem State.Ranged.of_steady (h : s.Ranged) (hsteady : t.steady = s.steady) (hmaster : t.master = s.master)
    (hchans : ∀ k, (t.chans.get k).controls = (s.chans.get k).controls) : t.Ranged :=
  h.of_eq (congrArg Steady.slips hsteady) (congrArg Steady.threshold hsteady)
    (congrArg Steady.free hsteady) hmaster (congrArg Steady.controls hsteady) hchans

/-- R39: the target is 4096 or 0. -/
theorem State.targetOf_cases (s : State) : s.targetOf = 0 ∨ s.targetOf = Config.one := by
  unfold State.targetOf
  split
  · exact .inr rfl
  · exact .inl rfl

theorem State.Ranged.retarget (h : s.Ranged) : s.retarget.Ranged :=
  { h with target := s.targetOf_cases }

theorem State.Ranged.acqWork (h : s.Ranged) (hwork : AcqWork s t) : t.Ranged := by
  refine h.of_steady hwork.steady_eq ?_ ?_
  · rw [hwork.eq]
  · rw [hwork.eq]
    exact fun _ => rfl

theorem State.Ranged.post (h : s.Ranged) (b : IndBody) : (s.post b).Ranged :=
  h.of_steady (s.post_steady b) (by simp) (by simp)

theorem State.Ranged.changeMode (h : s.Ranged) (m : PartMode) : (s.changeMode m).Ranged :=
  h.of_eq (by simp) (by simp) (by simp) (by simp) (by simp) (by simp)

end Ranged

/-! ### Channels keep their controls (R105, R126) -/

@[simp] theorem Channel.countSample_controls (good : Bool) (c : Channel) :
    (c.countSample good).controls = c.controls := by
  unfold Channel.countSample
  repeat' split
  all_goals rfl

@[simp] theorem Channel.sampled_controls (good : Bool) (c : Channel) :
    (c.sampled good).controls = c.controls := by
  unfold Channel.sampled
  split <;> simp

@[simp] theorem Channel.faded_controls (c : Channel) : c.faded.controls = c.controls := by
  unfold Channel.faded
  split <;> rfl

@[simp] theorem Channel.started_controls (good : Bool) (mode : ModeState) (c : Channel) :
    (c.started good mode).controls = c.controls := by
  unfold Channel.started
  split <;> simp [Channel.latch]

@[simp] theorem Channel.asleep_controls (c : Channel) : c.asleep.controls = c.controls := by
  unfold Channel.asleep
  split <;> rfl

/-- A channel's record is replaced by one with its controls. -/
theorem Four.controls_of_set {f g : Four Channel} {k : Output} {c : Channel} (h : g = f.set k c)
    (hc : c.controls = (f.get k).controls) (j : Output) : (g.get j).controls = (f.get j).controls := by
  subst h
  by_cases hj : j = k
  · subst hj
    rw [Four.get_set_same, hc]
  · rw [Four.get_set_other _ _ _ _ hj]

theorem State.Ranged.of_chan {s t : State} {k : Output} {c : Channel} (h : s.Ranged)
    (hchans : t.chans = s.chans.set k c) (hc : c.controls = (s.chan k).controls)
    (hframes : t.frames = s.frames) (htimer : t.timer = s.timer) (hmaster : t.master = s.master)
    (hacq : t.acq = s.acq) : t.Ranged :=
  h.of_eq (by rw [hframes]) (by rw [hframes]) (by rw [htimer]) hmaster (by rw [hacq])
    (Four.controls_of_set hchans hc)

theorem State.Ranged.changeChan {s : State} (h : s.Ranged) (k : Output) {c : Channel} (cause : Cause)
    (hc : c.controls = (s.chan k).controls) : (s.changeChan k c cause).Ranged :=
  h.of_chan (s.changeChan_chans k c cause) hc (by simp) (by simp) (by simp) (by simp)

theorem State.Ranged.chanStandby {s : State} (h : s.Ranged) (k : Output) : (s.chanStandby k).Ranged :=
  h.of_chan (s.chanStandby_chans k) (by simp) (by simp) (by simp) (by simp) (by simp)

/-! ### A start (R30, R40) -/

/-- R30: the slip counter stops at 65535. -/
theorem State.Ranged.countSlip {s : State} (h : s.Ranged) : s.countSlip.Ranged := by
  have hslipped (u : State) (hu : u.Ranged) (n : Nat) :
      ({ u with frames := { u.frames with slips := min 65535 n } } : State).flagSlip.Ranged :=
    { hu with slips := min_le_left _ _ }
  have hs := hslipped s h (s.frames.slips + 1)
  unfold State.countSlip
  dsimp only
  split
  · refine State.Ranged.post ?_ _
    exact { hs with slips := hs.slips }
  · exact hs

theorem State.Ranged.changeShowing {s : State} (h : s.Ranged) (b : Option BufNo) :
    (s.changeShowing b).Ranged := by
  unfold State.changeShowing
  split
  · exact h
  · exact h.of_eq rfl rfl rfl rfl rfl fun _ => rfl

theorem State.Ranged.selectFrame {s : State} (h : s.Ranged) : s.selectFrame.Ranged := by
  unfold State.selectFrame State.showExpected
  dsimp only
  repeat' split
  · exact h.changeShowing _
  · exact (h.changeShowing _).countSlip
  · exact (h.changeShowing _).countSlip
  · exact h.changeShowing _

theorem State.Ranged.canvasChanged {s : State} (h : s.Ranged) : s.canvasChanged.Ranged :=
  (h.acqWork (acqWork_newCanvas s)).of_eq rfl rfl rfl rfl rfl fun _ => rfl

theorem State.Ranged.swap {s : State} (h : s.Ranged) : s.swap.Ranged := by
  have hmode (u : State) (hu : u.Ranged) :
      (if u.mode.mode = .setup then u.changeMode .run else u).Ranged := by
    split
    · exact hu.changeMode _
    · exact hu
  have hposted : (({ s with banks := s.banks.swapped } : State).post
      (.bankSwapped s.banks.swapped.revision)).Ranged := by
    refine State.Ranged.post ?_ _
    exact h.of_eq rfl rfl rfl rfl rfl fun _ => rfl
  unfold State.swap
  dsimp only
  refine hmode _ ?_
  split
  · exact hposted.canvasChanged
  · exact hposted

theorem State.Ranged.enterStandby {s : State} (h : s.Ranged) : s.enterStandby.Ranged := by
  have hmode : (({ s with mode := { s.mode with mode := .standby } } : State).post
      (.modeChange .standby)).Ranged := by
    refine State.Ranged.post ?_ _
    exact h.of_eq rfl rfl rfl rfl rfl fun _ => rfl
  have hinput (u : State) (hu : u.Ranged) : u.standbyInput.emptyBuffers.Ranged :=
    (hu.acqWork (acqWork_moveTo u .noSignal [])).of_eq rfl rfl rfl rfl rfl fun _ => rfl
  unfold State.enterStandby
  dsimp only
  refine State.Ranged.chanStandby (State.Ranged.chanStandby (State.Ranged.chanStandby
    (State.Ranged.chanStandby (hinput _ ?_) 0) 1) 2) 3
  exact hmode.of_eq rfl rfl rfl rfl rfl fun _ => rfl

/-- R40: a step toward a target of 0 or 4096 stays within 4096. -/
theorem Master.next_le {m : Master} (hlevel : m.level ≤ Config.one)
    (htarget : m.target = 0 ∨ m.target = Config.one) : m.next ≤ Config.one := by
  have htarget : m.target ≤ Config.one := by rcases htarget with e | e <;> simp [e]
  unfold Master.next
  split
  · omega
  · split <;> omega

theorem State.Ranged.take {s : State} (h : s.Ranged) (align : Bool) (t : Taker) :
    (s.take align t).Ranged := by
  cases t with
  | frameStore => exact h.selectFrame
  | channel k =>
    exact h.of_chan (s.channelStart_chans k) (by simp) (by simp [State.take]) (by simp [State.take])
      (by simp [State.take]) (by simp [State.take])
  | bank =>
    rw [State.take, State.bankStart]
    split
    · exact h.swap
    · exact h
  | master =>
    have hmoved : ({ s with master := { s.master with level := s.master.next } } : State).Ranged :=
      { h with level := Master.next_le h.level h.target }
    rw [State.take, State.masterStart]
    dsimp only
    split
    · exact hmoved.enterStandby
    · exact hmoved
  | acquisition =>
    rw [State.take]
    split
    · exact h
    · exact h.acqWork (acqWork_acquisitionStart s)
  | probe =>
    exact h.of_eq (by simp [State.take]) (by simp [State.take]) (by simp [State.take])
      (by simp [State.take]) (by simp [State.take]) (by simp [State.take])
  | write =>
    rw [State.take]
    split
    · unfold State.beginWrite
      repeat' split
      · exact h
      · exact h
      · exact h.of_eq rfl rfl rfl rfl rfl fun _ => rfl
    · exact h

theorem State.Ranged.deliver {s : State} (h : s.Ranged) (align : Bool) (env : Env) :
    (s.deliver align env).Ranged := by
  unfold State.deliver
  refine State.Ranged.of_eq (s := (takeOrder env.order).foldl (fun s t => (s.take align t).retarget)
    { s with pins := { s.pins with linkGood := env.link } }) ?_ (by simp) (by simp) (by simp) (by simp)
    (by simp) (by simp)
  refine List.foldlRecOn (motive := State.Ranged) (takeOrder env.order) _ ?_ ?_
  · exact h.of_eq rfl rfl rfl rfl rfl fun _ => rfl
  · exact fun _ hu t _ => (hu.take align t).retarget

@[simp] theorem State.handBase_slips (s : State) : s.handBase.frames.slips = s.frames.slips := by
  unfold State.handBase
  split <;> rfl

@[simp] theorem State.handBase_threshold (s : State) :
    s.handBase.frames.threshold = s.frames.threshold := by
  unfold State.handBase
  split <;> rfl

theorem State.Ranged.timerStart {s : State} (h : s.Ranged) (env : Env) : (s.timerStart env).Ranged := by
  refine State.Ranged.deliver (h.of_eq ?_ ?_ ?_ ?_ ?_ ?_) false env
  all_goals simp

theorem State.Ranged.wakeUp {s : State} (h : s.Ranged) (env : Env) : (s.wakeUp env).Ranged := by
  have hmode := (h.changeMode s.mode.remembered.toMode).retarget
  unfold State.wakeUp
  split
  · exact hmode
  · refine State.Ranged.deliver (hmode.of_eq ?_ ?_ ?_ ?_ ?_ ?_) false env
    all_goals simp
  · exact h

theorem State.Ranged.loseInput {s : State} (h : s.Ranged) : s.loseInput.Ranged := by
  obtain ⟨t, hwork, heq⟩ := loseInput_work s
  rw [heq]
  exact (h.acqWork hwork).of_eq rfl rfl rfl rfl rfl fun _ => rfl

theorem State.Ranged.setFrame {s : State} (h : s.Ranged) (f : Option InFrame) : (s.setFrame f).Ranged :=
  h.of_eq rfl rfl rfl rfl rfl fun _ => rfl

theorem State.Ranged.beginWrite {s : State} (h : s.Ranged) : s.beginWrite.Ranged :=
  h.take true .write

theorem State.Ranged.lockedStart {s : State} (h : s.Ranged) (time : Nat) (env : Env) :
    (s.lockedStart time env).Ranged := by
  unfold State.lockedStart
  dsimp only
  split
  · refine State.Ranged.deliver ?_ true env
    exact h.of_eq rfl rfl rfl rfl rfl fun _ => rfl
  · exact ((h.setFrame _).acqWork (acqWork_countCadence _ time)).beginWrite

theorem State.Ranged.inputStart {s : State} (h : s.Ranged) (time : Nat) (env : Env) :
    (s.inputStart time env).Ranged := by
  have hguard : (s.guardBefore time).Ranged := by
    unfold State.guardBefore
    repeat' split
    · exact h
    · exact h.loseInput
    · exact h
  have htorn : (s.guardBefore time).tearFrame.Ranged := hguard.acqWork (acqWork_tearFrame _)
  unfold State.inputStart
  dsimp only
  split
  · exact (hguard.acqWork (acqWork_moveTo _ _ _)).setFrame _
  · split
    · exact htorn.setFrame _
    · exact hguard.lockedStart time env
  · split
    · exact htorn.setFrame _
    · exact hguard.lockedStart time env
  · exact (hguard.acqWork (acqWork_takeRecord _ _)).setFrame _

theorem State.Ranged.inputEnd {s : State} (h : s.Ranged) (frame : InputFrame) :
    (s.inputEnd frame).Ranged := by
  unfold State.inputEnd
  dsimp only
  repeat' split
  · exact h
  · exact h
  · exact h.setFrame _
  · exact h.of_eq rfl rfl rfl rfl rfl fun _ => rfl
  · exact (h.setFrame _).acqWork (acqWork_tearFrame _)

/-! ### Controls set by requests and the boot load (R18, R122, R125) -/

theorem State.Ranged.applyInputControls {s : State} (h : s.Ranged) {c : InputControls}
    (hc : c.hold ≤ Config.maxHold) : (s.applyInputControls c).Ranged := by
  refine State.Ranged.acqWork ?_ (acqWork_applyInputControls s c)
  exact { h with hold := hc }

theorem State.Ranged.setControls {s : State} (h : s.Ranged) (k : Output) {c : OutputControls}
    (hc : c.InRange) : (s.setChan k { s.chan k with controls := c }).Ranged :=
  { h with controls := Four.forall_get_set (p := fun c : Channel => c.controls.InRange) k h.controls hc }

theorem State.Ranged.restoreChan {s : State} (h : s.Ranged) (k : Output) {st : StoredOutput}
    (hst : st.controls.InRange) : (s.restoreChan k st).Ranged := by
  have hset := h.setControls k hst
  unfold State.restoreChan
  dsimp only
  split
  · exact hset.changeChan k _ rfl
  · exact hset

theorem State.Ranged.bootLoad {s : State} (h : s.Ranged) {p : Profile} (hp : p.ControlsInRange) :
    (s.bootLoad p).Ranged := by
  obtain ⟨hhold, houts⟩ := hp
  have hcontrols : (State.applyInputControls p.input { s with banks := s.banks.booted p }).Ranged := by
    refine State.Ranged.applyInputControls ?_ hhold
    exact h.of_eq rfl rfl rfl rfl rfl fun _ => rfl
  unfold State.bootLoad
  dsimp only
  refine State.Ranged.restoreChan (State.Ranged.restoreChan (State.Ranged.restoreChan
    (State.Ranged.restoreChan ?_ 0 (houts 0)) 1 (houts 1)) 2 (houts 2)) 3 (houts 3)
  split
  · exact hcontrols.canvasChanged
  · exact hcontrols

theorem State.Ranged.profileDone {s : State} (h : s.Ranged) (n : Option ProfileNo) (op : ProfileOp)
    (r : ProfileResult) : (s.profileDone n op r).Ranged :=
  h.post _

theorem State.Ranged.boot {s : State} (h : s.Ranged)
    (hstored : StoreHolds Profile.ControlsInRange s.profiles) : s.boot.Ranged := by
  rcases s.boot_cases with ⟨_, e⟩ | ⟨n, _, _, e⟩ | ⟨n, p, _, _, hp, e⟩ | ⟨n, _, _, _, _, e⟩
  · rw [e]
    exact (h.profileDone _ _ _).changeMode _
  · exact h.of_eq (by simp [e]) (by simp [e]) (by simp [e]) (by simp [e]) (by simp [e]) (by simp [e])
  · rw [e]
    exact ((h.profileDone _ _ _).bootLoad (hstored.area n p hp)).changeMode _
  · exact h.of_eq (by simp [e]) (by simp [e]) (by simp [e]) (by simp [e]) (by simp [e]) (by simp [e])

theorem State.Ranged.enableChan {s : State} (h : s.Ranged) (k : Output) : (s.enableChan k).Ranged := by
  unfold State.enableChan
  split
  · exact h.changeChan k _ rfl
  · exact h.changeChan k _ rfl
  · exact h

theorem State.Ranged.disableChan {s : State} (h : s.Ranged) (k : Output) : (s.disableChan k).Ranged := by
  unfold State.disableChan
  split
  · exact h.changeChan k _ rfl
  · exact h.changeChan k _ rfl
  · exact h.changeChan k _ rfl
  · exact h.changeChan k _ rfl
  · exact h

theorem State.Ranged.acquireTimeout {s : State} (h : s.Ranged) : s.acquireTimeout.Ranged := by
  refine State.Ranged.acqWork ?_ (acqWork_moveTo _ _ _)
  exact (h.post _).of_eq rfl rfl rfl rfl rfl fun _ => rfl

/-! ### Every step -/

theorem resetControls_inRange : resetControls.InRange := by constructor <;> decide

theorem State.reset_ranged : State.reset.Ranged where
  slips := by decide
  threshold := by decide
  free := by decide
  level := by decide
  step := by decide
  target := .inl rfl
  hold := by decide
  controls := fun k => by
    rw [State.reset, Four.get_all]
    exact resetControls_inRange

theorem Change.keeps_ranged {s t : State} (hc : Change s t) (h : s.Ranged)
    (hstored : StoreHolds Profile.ControlsInRange s.profiles) : t.Ranged := by
  cases hc with
  | restart => exact State.reset_ranged.of_eq rfl rfl rfl rfl rfl fun _ => rfl
  | wakeUp env => exact h.wakeUp env
  | timerStart env => exact h.timerStart env
  | loseInput => exact h.loseInput.retarget
  | frameStart time env => exact (h.inputStart time env).retarget
  | frameEnd frame => exact (h.inputEnd frame).retarget
  | acquireTimeout => exact h.acquireTimeout.retarget
  | holdTimeout =>
    refine State.Ranged.retarget ?_
    exact h.of_eq rfl rfl rfl rfl rfl fun _ => rfl
  | dim home =>
    refine State.Ranged.retarget (State.Ranged.post ?_ _)
    exact h.of_eq rfl rfl rfl rfl rfl fun _ => rfl
  | scan =>
    have hidle : StoreHolds Profile.ControlsInRange
        (s.scanRest.onProfiles (ProfileStore.setCtl .idle)).profiles :=
      StoreHolds.setCtl (c := .idle) hstored.scanRest trivial
    have hscanned : (s.scanRest.onProfiles (ProfileStore.setCtl .idle)).Ranged :=
      h.of_eq (by simp) (by simp) (by simp) (by simp) (by simp) (by simp)
    exact (hscanned.boot hidle).retarget
  | inputControls c hhold => exact (h.applyInputControls (hhold h.hold)).retarget
  | acceptInput => exact (h.acqWork (acqWork_moveTo _ _ _)).retarget
  | freePeriod p staged hlow hhigh => exact { h with free := ⟨hlow, hhigh⟩ }
  | master mute step hstep =>
    refine State.Ranged.retarget ?_
    exact { h with step := hstep h.step }
  | counters => exact { h with slips := Nat.zero_le _ }
  | threshold v hlow hhigh => exact { h with threshold := ⟨hlow, hhigh⟩ }
  | enable k => exact (h.enableChan k).retarget
  | disable k => exact (h.disableChan k).retarget
  | rejoin k => exact (h.changeChan k (c := { s.chan k with state := .active }) .host rfl).retarget
  | outputControls k c hcontrols => exact (h.setControls k (hcontrols (h.controls k))).retarget
  | _ =>
    refine h.of_eq ?_ ?_ ?_ ?_ ?_ ?_
    all_goals simp [State.editScene]

/-- Settles O11: every change keeps the relation. -/
theorem everyStepKeepsTheRegistersInRange : Obligations.EveryStepKeepsTheRegistersInRange := by
  intro s t h hstep
  refine step_keeps (P := State.RegistersInRange) (fun _ _ h => ?_) ?_ h hstep
  · exact ⟨h.slips, h.threshold, h.free, h.level, h.step, h.target, h.hold, h.controls, h.areas, h.ctl⟩
  · intro s t hc h
    obtain ⟨hranged, hstored⟩ := s.registersInRange_iff.1 h
    refine t.registersInRange_iff.2 ⟨hc.keeps_ranged hranged hstored, hc.keeps_stored hstored ?_⟩
    refine fun _ _ => ⟨hranged.hold, fun k => ?_⟩
    simpa [State.captureProfile, Channel.stored] using hranged.controls k

end Sys2Proof.Machine
end

section
/-! PROOFS. Chapter 8, the directory (R153, R154): eight entries and eight areas, and every write count within
0 to 255. -/

namespace Sys2Proof.Machine

/-- What the relation says of the profile store. -/
structure ProfileStoreWhole (p : ProfileStore) : Prop where
  entries  : p.entries.length = 8
  areas    : p.flash.areas.length = 8
  counts   : ∀ e ∈ p.entries, e.writeCount ≤ 255
  scanned  : ∀ n ∈ p.scanCounts, n ≤ 255
  copy0    : p.flash.copy0.CountsInRange
  copy1    : p.flash.copy1.CountsInRange
  examined : p.examined ≤ 8

theorem State.directoryWhole_iff (s : State) : s.DirectoryWhole ↔ ProfileStoreWhole s.profiles :=
  ⟨fun h => ⟨h.entries, h.areas, h.counts, h.scanned, h.copy0, h.copy1, h.examined⟩,
    fun h => ⟨h.entries, h.areas, h.counts, h.scanned, h.copy0, h.copy1, h.examined⟩⟩

section Whole

variable {p : ProfileStore}

/-- An entry read by number has its count in range, the one of a number too high included. -/
theorem ProfileStoreWhole.entry (h : ProfileStoreWhole p) (n : ProfileNo) : (p.entry n).writeCount ≤ 255 := by
  unfold ProfileStore.entry
  rw [List.getD_eq_getElem?_getD]
  cases he : p.entries[n.val]? with
  | none => exact Nat.zero_le _
  | some e => exact h.counts e (List.mem_of_getElem? he)

theorem ProfileStoreWhole.setEntry (h : ProfileStoreWhole p) (n : ProfileNo) {e : Entry}
    (he : e.writeCount ≤ 255) : ProfileStoreWhole (p.setEntry n e) :=
  { h with
    entries := (List.length_set ..).trans h.entries
    counts := fun d hd => by
      rcases List.mem_or_eq_of_mem_set hd with hd | rfl
      · exact h.counts d hd
      · exact he }

theorem ProfileStoreWhole.setHeld (h : ProfileStoreWhole p) (n : ProfileNo) (held : Option (Bool × Header)) :
    ProfileStoreWhole (p.setHeld n held) :=
  h.setEntry n (h.entry n)

theorem ProfileStoreWhole.setArea (h : ProfileStoreWhole p) (n : ProfileNo) (a : Area) :
    ProfileStoreWhole (p.setArea n a) :=
  { h with areas := (List.length_set ..).trans h.areas }

theorem ProfileStoreWhole.setCtl (h : ProfileStoreWhole p) (c : Ctl) : ProfileStoreWhole (p.setCtl c) :=
  { h with }

theorem ProfileStoreWhole.setCopy (h : ProfileStoreWhole p) (c : Bool) {d : DirCopy} (passes : Bool)
    (hd : d.CountsInRange) : ProfileStoreWhole (p.setCopy c d passes) := by
  unfold ProfileStore.setCopy
  split
  · exact { h with copy1 := hd }
  · exact { h with copy0 := hd }

theorem ProfileStoreWhole.beginDirectory (h : ProfileStoreWhole p) : ProfileStoreWhole p.beginDirectory :=
  h.setCopy _ _ (by simp [DirCopy.CountsInRange, DirCopy.directory?])

theorem ProfileStoreWhole.endDirectory (h : ProfileStoreWhole p) (written : Bool) (boot : Option ProfileNo)
    {counts : List Nat} (hcounts : ∀ n ∈ counts, n ≤ 255) :
    ProfileStoreWhole (p.endDirectory written boot counts) :=
  h.setCopy _ _ (by simpa [DirCopy.CountsInRange, DirCopy.directory?] using hcounts)

theorem ProfileStoreWhole.ownCounts (h : ProfileStoreWhole p) : ∀ n ∈ p.counts, n ≤ 255 := by
  simpa [ProfileStore.counts] using h.counts

/-- R153: the raised count saturates. -/
theorem ProfileStoreWhole.raisedCounts (h : ProfileStoreWhole p) (n : ProfileNo) :
    ∀ m ∈ raiseCount n p.counts, m ≤ 255 := by
  intro m hm
  rcases List.mem_or_eq_of_mem_set hm with hm | rfl
  · exact h.ownCounts m hm
  · exact min_le_left _ _

theorem ProfileStoreWhole.beginDirectoryPhase (h : ProfileStoreWhole p) :
    ProfileStoreWhole p.beginDirectoryPhase := by
  unfold ProfileStore.beginDirectoryPhase
  split
  · exact ((h.setArea _ _).beginDirectory).setCtl _
  · exact ((h.setArea _ _).beginDirectory).setCtl _
  · exact h

theorem ProfileStoreWhole.endStore (h : ProfileStoreWhole p) (n : ProfileNo) (image : Profile)
    (verified written : Bool) : ProfileStoreWhole (p.endStore n image verified written) := by
  have hended := h.endDirectory written p.boot (h.raisedCounts n)
  refine (hended.setEntry n ?_).setCtl .idle
  dsimp only
  split
  · exact min_le_left _ _
  · exact h.entry n

theorem ProfileStoreWhole.withBoot (h : ProfileStoreWhole p) (boot : Option ProfileNo) :
    ProfileStoreWhole { p with boot := boot } :=
  { h with }

theorem ProfileStoreWhole.endErase (h : ProfileStoreWhole p) (n : ProfileNo) (erased : Area)
    (blank written : Bool) : ProfileStoreWhole (p.endErase n erased blank written) := by
  have hended := h.endDirectory written (bootWithout n p.boot) h.ownCounts
  unfold ProfileStore.endErase
  dsimp only
  refine ProfileStoreWhole.setCtl ?_ .idle
  have hboot : ProfileStoreWhole (if written = true then
      { p.endDirectory written (bootWithout n p.boot) p.counts with
        boot := bootWithout n (p.endDirectory written (bootWithout n p.boot) p.counts).boot }
      else p.endDirectory written (bootWithout n p.boot) p.counts) := by
    split
    · exact hended.withBoot _
    · exact hended
  split
  · exact hboot.setHeld _ _
  · exact (hboot.setArea _ _).setHeld _ _

end Whole

/-! ### The scan (R154, R156) -/

/-- R154: the newer of two copies is one of them. -/
theorem newerCopy_cases {a b : Option Directory} {x : Bool × Directory} (h : newerCopy a b = some x) :
    a = some x.2 ∨ b = some x.2 := by
  unfold newerCopy at h
  split at h
  · split at h
    · exact .inl (by cases h; rfl)
    · split at h
      · exact .inr (by cases h; rfl)
      · exact .inl (by cases h; rfl)
  · exact .inl (by cases h; rfl)
  · exact .inr (by cases h; rfl)
  · cases h

/-- The newer copy's counts are in range. -/
theorem ProfileStoreWhole.newer {p : ProfileStore} (h : ProfileStoreWhole p) {x : Bool × Directory}
    (hx : p.newer = some x) : ∀ n ∈ x.2.counts, n ≤ 255 := by
  rcases newerCopy_cases hx with e | e
  · split at e
    · exact h.copy0 x.2 e
    · cases e
  · split at e
    · exact h.copy1 x.2 e
    · cases e

theorem getD_le_of_forall {l : List Nat} {m : Nat} (h : ∀ n ∈ l, n ≤ m) (i : Nat) : l.getD i 0 ≤ m := by
  rw [List.getD_eq_getElem?_getD]
  cases hi : l[i]? with
  | none => exact Nat.zero_le _
  | some n => exact h n (List.mem_of_getElem? hi)

/-- R154: the store once the checks of the two copies are known. -/
def ProfileStore.withPasses (pass0 pass1 : Bool) (p : ProfileStore) : ProfileStore :=
  { p with
    pass0 := pass0 && p.flash.copy0.directory?.isSome
    pass1 := pass1 && p.flash.copy1.directory?.isSome
    dirRead := true }

/-- R154: the counts that the scan takes from the newer copy, zeros where neither passes. -/
def ProfileStore.foundCounts (p : ProfileStore) : List Nat :=
  match p.newer with
  | some x => x.2.counts
  | none => List.replicate 8 0

/-- R154: the store after the scan has read the directory. -/
def ProfileStore.directoryRead (pass0 pass1 : Bool) (p : ProfileStore) : ProfileStore :=
  { p.withPasses pass0 pass1 with
    boot := (p.withPasses pass0 pass1).newer.bind fun x => x.2.boot
    scanCounts := (p.withPasses pass0 pass1).foundCounts
    entries := p.entries.mapIdx fun i e =>
      if i < p.examined then { e with writeCount := (p.withPasses pass0 pass1).foundCounts.getD i 0 } else e }

/-- R154: PROFILE_BAD is set where neither copy passes, unless both are blank. -/
theorem State.scanDirectory_eq (s : State) (pass0 pass1 : Bool) :
    s.scanDirectory pass0 pass1 =
      if ((s.profiles.withPasses pass0 pass1).newer.isNone && !(decide (s.profiles.flash.copy0 = .blank) &&
        decide (s.profiles.flash.copy1 = .blank))) = true
      then (s.onProfiles (ProfileStore.directoryRead pass0 pass1)).flagProfileBad
      else s.onProfiles (ProfileStore.directoryRead pass0 pass1) :=
  rfl

@[simp] theorem State.scanDirectory_profiles (s : State) (pass0 pass1 : Bool) :
    (s.scanDirectory pass0 pass1).profiles = s.profiles.directoryRead pass0 pass1 := by
  rw [State.scanDirectory_eq]
  split <;> simp

theorem ProfileStoreWhole.withPasses {p : ProfileStore} (h : ProfileStoreWhole p) (pass0 pass1 : Bool) :
    ProfileStoreWhole (p.withPasses pass0 pass1) :=
  { h with }

theorem ProfileStoreWhole.foundCounts {p : ProfileStore} (h : ProfileStoreWhole p) :
    ∀ n ∈ p.foundCounts, n ≤ 255 := by
  unfold ProfileStore.foundCounts
  split
  · next x hx => exact h.newer hx
  · simp

theorem ProfileStoreWhole.directoryRead {p : ProfileStore} (h : ProfileStoreWhole p) (pass0 pass1 : Bool) :
    ProfileStoreWhole (p.directoryRead pass0 pass1) := by
  have hread := h.withPasses pass0 pass1
  refine { hread with entries := ?_, counts := ?_, scanned := hread.foundCounts }
  · simpa [ProfileStore.directoryRead] using h.entries
  · intro e he
    obtain ⟨i, hi, rfl⟩ := List.mem_mapIdx.1 he
    split
    · exact getD_le_of_forall hread.foundCounts i
    · exact h.counts _ (List.getElem_mem hi)

theorem profile?_val {i : Nat} {n : ProfileNo} (h : profile? i = some n) : n.val = i := by
  unfold profile? at h
  split at h
  · cases h
    rfl
  · cases h

theorem ProfileStoreWhole.scanNext {s : State} (h : ProfileStoreWhole s.profiles) (r : AreaReading) :
    ProfileStoreWhole (s.scanNext r).profiles := by
  unfold State.scanNext
  split
  · exact h
  · next n hn =>
    have hset := (h.setArea n (scannedArea (s.profiles.area n) r)).setEntry n
      (e := ⟨scanArea (s.profiles.area n) r s.free, s.profiles.scanCounts.getD n.val 0⟩)
      (getD_le_of_forall h.scanned n.val)
    have hexamined : s.profiles.examined + 1 ≤ 8 := by
      have hval := profile?_val hn
      omega
    dsimp only
    split
    · simpa using { hset with examined := hexamined }
    · exact { hset with examined := hexamined }

theorem ProfileStoreWhole.scanStep {s : State} (h : ProfileStoreWhole s.profiles) (r : ScanReading) :
    ProfileStoreWhole (s.scanStep r).profiles := by
  unfold State.scanStep
  split
  · split
    · exact h
    · rw [State.scanDirectory_profiles]
      exact h.directoryRead _ _
  · exact h.scanNext _

theorem ProfileStoreWhole.scanRest {s : State} (h : ProfileStoreWhole s.profiles) :
    ProfileStoreWhole s.scanRest.profiles := by
  have hareas (n : Nat) (u : State) (hu : ProfileStoreWhole u.profiles) :
      ProfileStoreWhole (State.scanAreas n u).profiles := by
    induction n generalizing u with
    | zero => exact hu
    | succ n ih => exact ih _ (hu.scanNext _)
  exact hareas _ _ (h.scanStep _)

theorem ProfileStoreWhole.finishScan {s : State} (h : ProfileStoreWhole s.profiles) :
    ProfileStoreWhole s.finishScan.profiles := by
  have hidle : ProfileStoreWhole (s.scanRest.onProfiles (ProfileStore.setCtl .idle)).profiles :=
    h.scanRest.setCtl .idle
  show ProfileStoreWhole (s.scanRest.onProfiles (ProfileStore.setCtl .idle)).boot.profiles
  rcases (s.scanRest.onProfiles (ProfileStore.setCtl .idle)).boot_profiles with e | e
  · rw [e]
    exact hidle
  · rw [e]
    exact hidle.withBoot none

/-! ### Every step -/

/-- R164: after a reset the directory image is empty, the flash as it was. -/
theorem ProfileStoreWhole.restarted {p : ProfileStore} (h : ProfileStoreWhole p) :
    ProfileStoreWhole (resetProfiles p.flash) where
  entries := List.length_replicate
  areas := h.areas
  counts := by simp [resetProfiles, emptyEntry]
  scanned := by simp [resetProfiles]
  copy0 := h.copy0
  copy1 := h.copy1
  examined := Nat.zero_le _

/-- The end of a flash operation, whatever its result, leaves the store that it ended with. -/
theorem State.done_profiles (s : State) (ok : Bool) (n : Option ProfileNo) (op : ProfileOp) :
    (if ok = true then s.profileDone n op .ok
      else (s.profileDone n op .failed).flagProfileBad).profiles = s.profiles := by
  split <;> simp

theorem Change.keeps_directoryWhole {s t : State} (hc : Change s t) (h : ProfileStoreWhole s.profiles) :
    ProfileStoreWhole t.profiles := by
  cases hc with
  | restart => exact h.restarted
  | load n arm good =>
    unfold State.finishLoad
    dsimp only
    split
    · simpa using h.setCtl .idle
    · simpa using (h.setCtl .idle).setHeld n _
  | store n image begun verified written =>
    rw [State.finishStore, State.done_profiles]
    exact h.beginDirectoryPhase.endStore n image verified written
  | erase n erased begun blank written =>
    rw [State.finishErase, State.done_profiles]
    exact h.beginDirectoryPhase.endErase n erased blank written
  | bootWrite boot written =>
    rw [State.finishBootWrite, State.done_profiles]
    exact ((h.endDirectory written boot h.ownCounts).setCtl .idle).withBoot _
  | scan => exact h.finishScan
  | scanStep r => exact h.scanStep r
  | directoryBegin => exact h.beginDirectoryPhase
  | beginLoad n arm => exact h.setCtl _
  | beginStore n revision label => exact (h.setArea n _).setCtl _
  | beginErase n => exact (h.setArea n _).setCtl _
  | beginBoot boot => exact h.beginDirectory.setCtl _
  | _ => simpa [State.startDimming, State.editScene] using h

/-- Settles O12: every change keeps the relation. -/
theorem everyStepKeepsTheDirectoryWhole : Obligations.EveryStepKeepsTheDirectoryWhole := by
  intro s t h hstep
  refine step_keeps (P := State.DirectoryWhole) (fun s _ h => ?_) (fun s t hc h => ?_) h hstep
  · exact (State.directoryWhole_iff _).2 (s.directoryWhole_iff.1 h)
  · exact t.directoryWhole_iff.2 (hc.keeps_directoryWhole (s.directoryWhole_iff.1 h))

end Sys2Proof.Machine
end

section
/-! PROOFS. Chapter 9, the state beside the link: every operation of the other blocks does the same
whatever the link holds, so that the link reads a request's effect and its reply off the rest of the part. -/

namespace Sys2Proof.Machine

/-- The state with another link. -/
def State.withLink (l : Link) (s : State) : State := { s with link := l }

section WithLink

variable (l : Link) (s : State)

@[simp] theorem State.withLink_pins : (s.withLink l).pins = s.pins := rfl
@[simp] theorem State.withLink_acq : (s.withLink l).acq = s.acq := rfl
@[simp] theorem State.withLink_frames : (s.withLink l).frames = s.frames := rfl
@[simp] theorem State.withLink_timer : (s.withLink l).timer = s.timer := rfl
@[simp] theorem State.withLink_master : (s.withLink l).master = s.master := rfl
@[simp] theorem State.withLink_chans : (s.withLink l).chans = s.chans := rfl
@[simp] theorem State.withLink_banks : (s.withLink l).banks = s.banks := rfl
@[simp] theorem State.withLink_profiles : (s.withLink l).profiles = s.profiles := rfl
@[simp] theorem State.withLink_mode : (s.withLink l).mode = s.mode := rfl
@[simp] theorem State.withLink_link : (s.withLink l).link = l := rfl
@[simp] theorem State.withLink_probe : (s.withLink l).probe = s.probe := rfl
@[simp] theorem State.withLink_chan (k : Output) : (s.withLink l).chan k = s.chan k := rfl
@[simp] theorem State.withLink_active : (s.withLink l).active = s.active := rfl
@[simp] theorem State.withLink_pendingBank : (s.withLink l).pendingBank = s.pendingBank := rfl
@[simp] theorem State.withLink_readBank (p : Bool) : (s.withLink l).readBank p = s.readBank p := rfl
@[simp] theorem State.withLink_bankItem (body : List Byte) (st : BankStore) :
    (s.withLink l).bankItem body st = s.bankItem body st := rfl

/-! ### Updates of one block -/

theorem State.withLink_pins_update (p : Pins) :
    ({ s.withLink l with pins := p } : State) = State.withLink l { s with pins := p } := rfl

theorem State.withLink_acq_update (a : Acquisition) :
    ({ s.withLink l with acq := a } : State) = State.withLink l { s with acq := a } := rfl

theorem State.withLink_frames_update (f : FrameStore) :
    ({ s.withLink l with frames := f } : State) = State.withLink l { s with frames := f } := rfl

theorem State.withLink_timer_update (t : Timer) :
    ({ s.withLink l with timer := t } : State) = State.withLink l { s with timer := t } := rfl

theorem State.withLink_master_update (m : Master) :
    ({ s.withLink l with master := m } : State) = State.withLink l { s with master := m } := rfl

theorem State.withLink_banks_update (b : Banks) :
    ({ s.withLink l with banks := b } : State) = State.withLink l { s with banks := b } := rfl

theorem State.withLink_mode_update (m : ModeState) :
    ({ s.withLink l with mode := m } : State) = State.withLink l { s with mode := m } := rfl

/-! ### The shared operations -/

@[simp] theorem State.withLink_post (b : IndBody) :
    (s.withLink l).post b = (s.post b).withLink l := by
  rw [State.post_eq, State.post_eq]
  rfl

@[simp] theorem State.withLink_setFlags (f : CaptureFlags → CaptureFlags) :
    (s.withLink l).setFlags f = (s.setFlags f).withLink l := rfl

@[simp] theorem State.withLink_retarget : (s.withLink l).retarget = s.retarget.withLink l := rfl

@[simp] theorem State.withLink_changeMode (m : PartMode) :
    (s.withLink l).changeMode m = (s.changeMode m).withLink l := (s.setMode m).withLink_post l _

/-! ### Acquisition -/

@[simp] theorem State.withLink_leaving : Spec.leaving (s.withLink l) = (Spec.leaving s).withLink l := by
  unfold Spec.leaving
  simp only [State.withLink_acq, apply_ite (State.withLink l)]
  rfl

@[simp] theorem State.withLink_moveTo (new : AcqState) (w : List FrameRecord) :
    (s.withLink l).moveTo new w = (s.moveTo new w).withLink l := by
  cases hnew : new.isLocked with
  | true =>
    rw [State.moveTo_in _ w hnew, State.moveTo_in _ w hnew]
    rfl
  | false =>
    rw [State.moveTo_out _ w hnew, State.moveTo_out _ w hnew, State.withLink_leaving]
    rfl

theorem State.withLink_setTarget (t : Nat) : (s.withLink l).setTarget t = (s.setTarget t).withLink l := rfl

theorem State.withLink_sizeFits (m : FrameRecord) : (s.withLink l).sizeFits m = s.sizeFits m := rfl

@[simp] theorem State.withLink_formatCheck : (s.withLink l).formatCheck = s.formatCheck.withLink l := by
  unfold State.formatCheck
  dsimp only [State.withLink_acq]
  cases s.acq.measured with
  | none => rfl
  | some m =>
    simp only [State.withLink_setTarget, State.withLink_sizeFits, State.withLink_acq, State.withLink_moveTo,
      apply_ite (State.withLink l)]

@[simp] theorem State.withLink_newCanvas : (s.withLink l).newCanvas = s.newCanvas.withLink l := by
  unfold State.newCanvas
  simp only [State.withLink_acq, State.withLink_formatCheck, State.withLink_sizeFits, State.withLink_moveTo]
  cases s.acq.measured with
  | none => cases s.acq.state <;> rfl
  | some m => cases s.acq.state <;> simp only [apply_ite (State.withLink l)]

@[simp] theorem State.withLink_recadence : (s.withLink l).recadence = s.recadence.withLink l := by
  unfold State.recadence
  dsimp only [State.withLink_acq]
  cases s.acq.measured with
  | none => rfl
  | some m => simp only [State.withLink_setTarget, State.withLink_moveTo, apply_ite (State.withLink l)]

@[simp] theorem State.withLink_applyInputControls (c : InputControls) :
    (s.withLink l).applyInputControls c = (s.applyInputControls c).withLink l := by
  unfold State.applyInputControls
  simp only [State.withLink_acq, State.withLink_acq_update, State.withLink_formatCheck,
    State.withLink_recadence]
  cases s.acq.state <;> simp only [apply_ite (State.withLink l)] <;> rfl

theorem State.withLink_pair (start cadence : Nat) :
    (s.withLink l).pair start cadence = (s.pair start cadence).withLink l := by
  unfold State.pair
  simp only [State.withLink_acq, State.withLink_timer]
  cases s.acq.state <;> simp only [apply_ite (State.withLink l), ← State.withLink_moveTo] <;> rfl

theorem State.withLink_acquisitionStart :
    (s.withLink l).acquisitionStart = s.acquisitionStart.withLink l := by
  have hzero (time : Nat) : (s.withLink l).positionZero time = (s.positionZero time).withLink l := by
    unfold State.positionZero
    simp only [State.withLink_acq, State.withLink_acq_update, State.withLink_pair]
    cases s.acq.waitCadence <;> rfl
  unfold State.acquisitionStart
  simp only [State.withLink_acq, State.withLink_timer, hzero, apply_ite (State.withLink l)]
  rfl

/-! ### The frame store -/

theorem State.withLink_changeShowing (b : Option BufNo) :
    (s.withLink l).changeShowing b = (s.changeShowing b).withLink l := by
  cases b <;> rfl

theorem State.withLink_countSlip : (s.withLink l).countSlip = s.countSlip.withLink l := by
  unfold State.countSlip State.flagSlip
  simp only [apply_ite (State.withLink l), ← State.withLink_post, ← State.withLink_setFlags]
  rfl

theorem State.withLink_selectFrame : (s.withLink l).selectFrame = s.selectFrame.withLink l := by
  have hexpected : (s.withLink l).expected = s.expected := rfl
  unfold State.selectFrame State.showExpected
  simp only [State.withLink_acq, State.withLink_frames, hexpected, State.withLink_changeShowing,
    State.withLink_countSlip]
  cases s.expected with
  | none => cases s.acq.state <;> rfl
  | some e =>
    cases s.acq.state
    case locked =>
      dsimp only
      cases showingBuf (s.changeShowing (chooseExpected e s.frames.bufs)).frames.bufs with
      | none => rfl
      | some b => simp only [apply_ite (State.withLink l)]
    all_goals rfl

theorem State.withLink_beginWrite : (s.withLink l).beginWrite = s.beginWrite.withLink l := by
  unfold State.beginWrite
  simp only [State.withLink_acq, State.withLink_frames, apply_ite (State.withLink l)]
  cases chooseForWrite s.frames.bufs <;> rfl

theorem State.withLink_dropWrite : (s.withLink l).dropWrite = s.dropWrite.withLink l := rfl

theorem State.withLink_emptyBuffers : (s.withLink l).emptyBuffers = s.emptyBuffers.withLink l := rfl

/-! ### The channels -/

@[simp] theorem State.withLink_setChan (k : Output) (c : Channel) :
    (s.withLink l).setChan k c = (s.setChan k c).withLink l := rfl

@[simp] theorem State.withLink_changeChan (k : Output) (c : Channel) (cause : Cause) :
    (s.withLink l).changeChan k c cause = (s.changeChan k c cause).withLink l := by
  unfold State.changeChan State.flagOutputLost
  simp only [State.withLink_setChan, State.withLink_setFlags, ← apply_ite (State.withLink l),
    State.withLink_post]

theorem State.withLink_channelStart (k : Output) :
    (s.withLink l).channelStart k = (s.channelStart k).withLink l := by
  have hsample (good : Bool) : (s.withLink l).chanSample k good = (s.chanSample k good).withLink l := by
    unfold State.chanSample
    simp only [State.withLink_chan, State.withLink_setChan, State.withLink_changeChan]
    cases ((s.chan k).countSample good).sampleChange good <;> rfl
  have hpresence (u : State) : (u.withLink l).chanPresence k = (u.chanPresence k).withLink l := by
    unfold State.chanPresence
    simp only [State.withLink_chan, State.withLink_setChan, State.withLink_changeChan,
      apply_ite (State.withLink l)]
  unfold State.channelStart
  simp only [State.withLink_mode, State.withLink_pins, State.withLink_chan, hsample, hpresence,
    State.withLink_setChan, apply_ite (State.withLink l)]

theorem State.withLink_chanStandby (k : Output) :
    (s.withLink l).chanStandby k = (s.chanStandby k).withLink l := by
  unfold State.chanStandby
  simp only [State.withLink_chan, State.withLink_setChan, State.withLink_changeChan]
  cases (s.chan k).state <;> rfl

@[simp] theorem State.withLink_enableChan (k : Output) :
    (s.withLink l).enableChan k = (s.enableChan k).withLink l := by
  unfold State.enableChan
  simp only [State.withLink_chan, State.withLink_changeChan]
  cases (s.chan k).state <;> rfl

@[simp] theorem State.withLink_disableChan (k : Output) :
    (s.withLink l).disableChan k = (s.disableChan k).withLink l := by
  unfold State.disableChan
  simp only [State.withLink_chan, State.withLink_changeChan]
  cases (s.chan k).state <;> rfl

/-! ### The banks, the master level and the mode -/

theorem State.withLink_bankStart : (s.withLink l).bankStart = s.bankStart.withLink l := by
  have hdue : (s.withLink l).swapDue = s.swapDue := rfl
  have hcanvas (u : State) : (u.withLink l).canvasChanged = u.canvasChanged.withLink l := by
    unfold State.canvasChanged
    rw [State.withLink_newCanvas, State.withLink_emptyBuffers, State.withLink_dropWrite]
  unfold State.bankStart State.swap
  simp only [State.withLink_banks, State.withLink_banks_update]
  simp only [hdue, State.withLink_active, State.withLink_pendingBank,
    State.withLink_post, hcanvas, ← apply_ite (State.withLink l), State.withLink_mode,
    State.withLink_changeMode]

theorem State.withLink_enterStandby : (s.withLink l).enterStandby = s.enterStandby.withLink l := by
  have hinput (u : State) : (u.withLink l).standbyInput = u.standbyInput.withLink l := by
    unfold State.standbyInput
    rw [State.withLink_moveTo]
    rfl
  unfold State.enterStandby
  simp only [State.withLink_mode_update, State.withLink_post, State.withLink_timer_update, hinput,
    State.withLink_emptyBuffers, State.withLink_chanStandby]
  rfl

theorem State.withLink_masterStart : (s.withLink l).masterStart = s.masterStart.withLink l := by
  unfold State.masterStart
  simp only [State.withLink_master, State.withLink_master_update]
  simp only [State.withLink_mode, State.withLink_enterStandby,
    apply_ite (State.withLink l)]

theorem State.withLink_probePost : (s.withLink l).probePost = s.probePost.withLink l := by
  unfold State.probePost
  simp only [State.withLink_probe, State.withLink_post]
  cases s.probe <;> rfl

theorem State.withLink_probeServe : (s.withLink l).probeServe = s.probeServe.withLink l := by
  have hresult (k : Output) (u v : Nat) : (s.withLink l).probeResult k u v = s.probeResult k u v := rfl
  unfold State.probeServe
  simp only [State.withLink_probe, hresult]
  cases s.probe <;> rfl

theorem State.withLink_take (align : Bool) (t : Taker) :
    (s.withLink l).take align t = (s.take align t).withLink l := by
  cases t with
  | frameStore => exact s.withLink_selectFrame l
  | channel k => exact s.withLink_channelStart l k
  | bank => exact s.withLink_bankStart l
  | master => exact s.withLink_masterStart l
  | probe => exact s.withLink_probePost l
  | acquisition =>
    cases align
    · exact s.withLink_acquisitionStart l
    · rfl
  | write =>
    cases align
    · rfl
    · exact s.withLink_beginWrite l

theorem State.withLink_takeAll (align : Bool) (order : List Taker) (s : State) :
    order.foldl (fun s t => (s.take align t).retarget) (s.withLink l) =
      (order.foldl (fun s t => (s.take align t).retarget) s).withLink l := by
  induction order generalizing s with
  | nil => rfl
  | cons t ts ih => rw [List.foldl_cons, State.withLink_take, State.withLink_retarget, ih, List.foldl_cons]

theorem State.withLink_deliver (align : Bool) (env : Env) :
    (s.withLink l).deliver align env = (s.deliver align env).withLink l := by
  unfold State.deliver
  simp only [State.withLink_pins, State.withLink_pins_update, State.withLink_takeAll, State.withLink_probeServe]

@[simp] theorem State.withLink_wakeUp (env : Env) :
    (s.withLink l).wakeUp env = (s.wakeUp env).withLink l := by
  have hbase (u : State) : (u.withLink l).handBase = u.handBase.withLink l := by
    unfold State.handBase
    rw [apply_ite (State.withLink l)]
    rfl
  have hstart (u : State) : (u.withLink l).wakeStart env = (u.wakeStart env).withLink l := by
    unfold State.wakeStart
    simp only [State.withLink_timer, State.withLink_timer_update, hbase, State.withLink_deliver]
  unfold State.wakeUp
  simp only [State.withLink_mode, State.withLink_changeMode, State.withLink_retarget, hstart]
  cases s.mode.mode <;> rfl

@[simp] theorem State.withLink_goDark : (s.withLink l).goDark = s.goDark.withLink l := by
  have hdim (home : HomeMode) : (s.withLink l).startDimming home = (s.startDimming home).withLink l :=
    congrArg State.retarget
      (State.withLink_changeMode l { s with mode := { s.mode with remembered := home } } .dimming)
  unfold State.goDark
  simp only [State.withLink_mode, hdim]
  cases s.mode.mode <;> rfl

end WithLink

end Sys2Proof.Machine
end

section
/-! PROOFS. Chapter 9, the replies (R172, R174): every request, whatever the link holds, has one effect on the
rest of the part and one reply, and so the link stays sound; the frames the receiver completes. -/

namespace Sys2Proof.Machine

/-! ### Every request is answered -/

/-- The rule has one effect, one status and one body under any two links. -/
def Replies (act : State → State) (s : State) : Prop :=
  ∀ l m : Link, ∃ (t : State) (st : Status) (body : List Byte), act (s.withLink l) = (t.withLink l).answer st body ∧
    act (s.withLink m) = (t.withLink m).answer st body

theorem replies_refuse (st : Status) (s : State) : Replies (State.refuse st) s :=
  fun _ _ => ⟨s, st, [], rfl, rfl⟩

/-- A choice that the link has no part in. -/
theorem replies_ite {c : State → Prop} [∀ s, Decidable (c s)] {a b : State → State} {s : State}
    (hc : ∀ l, c (s.withLink l) ↔ c s) (ha : Replies a s) (hb : Replies b s) :
    Replies (fun s => if c s then a s else b s) s := by
  intro l m
  by_cases h : c s
  · simp only [hc, h, if_true]
    exact ha l m
  · simp only [hc, h, if_false]
    exact hb l m

theorem replies_request {act : State → State} {s : State} (fits early : Bool) (h : Replies act s) :
    Replies (request fits early act) s :=
  replies_ite (c := fun _ => (!fits) = true) (fun _ => .rfl) (replies_refuse _ s)
    (replies_ite (c := fun s => (decide (s.mode.mode = .startup) && !early) = true) (fun _ => .rfl)
      (replies_refuse _ s) h)

theorem replies_admitEdit {act : State → State} {s : State} (h : Replies act s) :
    Replies (admitEdit act) s := by
  intro l m
  unfold admitEdit
  dsimp only [State.withLink_banks]
  split
  · exact h l m
  all_goals exact replies_refuse _ s l m

theorem replies_admitProfile {act : State → State} {s : State} (h : Replies act s) :
    Replies (admitProfile act) s := by
  intro l m
  unfold admitProfile
  dsimp only [State.withLink_profiles]
  split
  case h_2 => exact h l m
  all_goals exact replies_refuse _ s l m

section Rules

variable (s : State) (body : List Byte)

theorem replies_startOperation (f : ProfileStore → ProfileStore) : Replies (State.startOperation f) s :=
  fun _ _ => ⟨s.onProfiles f, .ok, [], rfl, rfl⟩

theorem replies_actIdentify : Replies actIdentify s := fun _ _ => ⟨s, .ok, s.identity, rfl, rfl⟩

theorem replies_actReset : Replies actReset s := fun _ _ => ⟨s, .ok, [], rfl, rfl⟩

theorem replies_actStatus : Replies actStatus s := fun _ _ =>
  ⟨s.clearFlags, .ok, s.statusBody, rfl, rfl⟩

theorem replies_actFetch : Replies actFetch s := fun _ _ =>
  ⟨{ s with ind := { s.ind with
      queue := s.ind.queue.drop Config.fetchRoom, attnN := (s.ind.queue.drop Config.fetchRoom).isEmpty } },
    .ok, b8 (s.ind.queue.take Config.fetchRoom).length ++
      ((s.ind.queue.take Config.fetchRoom).map Indication.bytes).flatten, rfl, rfl⟩

theorem replies_actSetMask : Replies (actSetMask body) s := fun _ _ =>
  ⟨{ s with ind := { s.ind with mask := BitVec.ofNat 16 (u16At body 0) } }, .ok, b16 s.ind.mask.toNat,
    rfl, rfl⟩

theorem replies_actSetFreePeriod : Replies (actSetFreePeriod body) s := fun _ _ =>
  ⟨{ s with timer := { s.timer with
      free := clamp Config.minPeriod Config.maxPeriod (u32At body 0)
      staged := if s.timer.mode = .free then clamp Config.minPeriod Config.maxPeriod (u32At body 0)
        else s.timer.staged } },
    okOr (clamps Config.minPeriod Config.maxPeriod (u32At body 0)), b32 s.timer.free, rfl, rfl⟩

theorem replies_actReadCounters : Replies actReadCounters s := fun _ _ =>
  ⟨{ s with frames := { s.frames with slips := 0, armed := true } }, .ok, s.counterReport, rfl, rfl⟩

theorem replies_actSetSlipThreshold : Replies (actSetSlipThreshold body) s := fun _ _ =>
  ⟨{ s with frames := { s.frames with threshold := clamp 1 65535 (u16At body 0) } },
    okOr (clamps 1 65535 (u16At body 0)), b16 s.frames.threshold, rfl, rfl⟩

theorem replies_actWriteScene : Replies (actWriteScene body) s := fun _ _ =>
  ⟨s.editScene fun sc => sc.withBody body, okOr (sceneClamped body), [], rfl, rfl⟩

theorem replies_actRevert : Replies actRevert s := fun _ _ =>
  ⟨s.setPendState .syncing, .ok, [], rfl, rfl⟩

theorem replies_actProfileList : Replies actProfileList s := fun _ _ =>
  ⟨s.bumpFree, .ok, s.profileReport, rfl, rfl⟩

theorem State.withLink_editScene (l : Link) (f : Scene → Scene) :
    (s.withLink l).editScene f = (s.editScene f).withLink l := rfl

theorem State.withLink_editOutput (l : Link) (k : Output) (f : OutputScene → OutputScene) :
    (s.withLink l).editOutput k f = (s.editOutput k f).withLink l := rfl

theorem replies_goDark : Replies (fun s => s.goDark.answerMode) s := fun l m =>
  ⟨s.goDark, .ok, b8 s.goDark.mode.mode.code, congrArg State.answerMode (s.withLink_goDark l),
    congrArg State.answerMode (s.withLink_goDark m)⟩

theorem replies_wakeUp (env : Env) : Replies (fun s => (s.wakeUp env).answerMode) s := fun l m =>
  ⟨s.wakeUp env, .ok, b8 (s.wakeUp env).mode.mode.code, congrArg State.answerMode (s.withLink_wakeUp l env),
    congrArg State.answerMode (s.withLink_wakeUp m env)⟩

theorem replies_actSetInputControl : Replies (actSetInputControl body) s := by
  intro l m
  unfold actSetInputControl
  dsimp only [State.withLink_acq]
  split
  · rw [State.withLink_applyInputControls, State.withLink_applyInputControls]
    exact ⟨(s.applyInputControls _).retarget, _, _, rfl, rfl⟩
  · exact replies_refuse _ s l m

theorem replies_actAcceptInput : Replies actAcceptInput s :=
  replies_ite (c := fun s => s.acq.state = .awaitAccept) (fun _ => .rfl)
    (fun l m => ⟨(s.moveTo .locking []).retarget, .ok, [],
      congrArg (fun s => s.retarget.answer .ok []) (s.withLink_moveTo l .locking []),
      congrArg (fun s => s.retarget.answer .ok []) (s.withLink_moveTo m .locking [])⟩)
    (replies_refuse _ s)

theorem replies_actSetMaster : Replies (actSetMaster body) s := by
  intro l m
  unfold actSetMaster
  dsimp only [State.withLink_master]
  split
  · exact replies_refuse _ s l m
  · exact ⟨State.retarget { s with master := _ }, _, _, rfl, rfl⟩

theorem replies_channelRequest {act : Output → State → State}
    (h : ∀ k l, act k (s.withLink l) = (act k s).withLink l) : Replies (channelRequest body act) s := by
  intro l m
  unfold channelRequest
  split
  · exact replies_refuse _ s l m
  · next k _ =>
    exact ⟨(act k s).retarget, .ok, ((act k s).retarget.chan k).report, by rw [h]; rfl, by rw [h]; rfl⟩

theorem replies_actOutputRejoin : Replies (actOutputRejoin body) s := by
  intro l m
  unfold actOutputRejoin
  split
  · exact replies_refuse _ s l m
  · next k _ =>
    have rejoined (j : Link) : ((s.withLink j).changeChan k { (s.withLink j).chan k with state := .active } .host) =
        (s.changeChan k { s.chan k with state := .active } .host).withLink j := s.withLink_changeChan j k _ _
    have hrejoin : Replies (fun s =>
        let s := (s.changeChan k { s.chan k with state := .active } .host).retarget
        s.answer .ok (s.chan k).report) s := fun l m =>
      ⟨(s.changeChan k { s.chan k with state := .active } .host).retarget, .ok, _,
        congrArg (fun s : State => s.retarget.answer .ok (s.retarget.chan k).report) (rejoined l),
        congrArg (fun s : State => s.retarget.answer .ok (s.retarget.chan k).report) (rejoined m)⟩
    exact replies_ite (c := fun s => (s.chan k).state = .parked) (fun _ => .rfl) hrejoin
      (replies_refuse _ s) l m

theorem replies_actSetOutputControl : Replies (actSetOutputControl body) s := by
  intro l m
  unfold actSetOutputControl
  dsimp only [State.withLink_chan]
  split
  · exact replies_refuse _ s l m
  · split
    · exact replies_refuse _ s l m
    · exact ⟨(s.setChan _ _).retarget, _, _, rfl, rfl⟩

theorem replies_actWriteLayout : Replies (actWriteLayout body) s := by
  intro l m
  unfold actWriteLayout
  split
  · simp only [State.withLink_editOutput]
    exact ⟨s.editOutput _ _, _, _, rfl, rfl⟩
  · exact replies_refuse _ s l m

theorem replies_actWriteMesh : Replies (actWriteMesh body) s := by
  intro l m
  unfold actWriteMesh
  split
  · exact replies_refuse _ s l m
  · split
    · simp only [State.withLink_editOutput]
      exact ⟨s.editOutput _ _, _, _, rfl, rfl⟩
    · exact replies_refuse _ s l m

theorem replies_actWriteCoverage : Replies (actWriteCoverage body) s := by
  intro l m
  unfold actWriteCoverage
  split
  · exact replies_refuse _ s l m
  · simp only [State.withLink_editOutput]
    exact ⟨s.editOutput _ _, _, _, rfl, rfl⟩

theorem replies_actWriteTone : Replies (actWriteTone body) s := by
  intro l m
  unfold actWriteTone
  split
  · exact replies_refuse _ s l m
  · simp only [State.withLink_editOutput]
    exact ⟨s.editOutput _ _, _, _, rfl, rfl⟩

theorem replies_actWriteTable : Replies (actWriteTable body) s := by
  intro l m
  unfold actWriteTable
  split
  · exact replies_refuse _ s l m
  · split
    · split
      · simp only [State.withLink_editScene]
        exact ⟨s.editScene _, _, _, rfl, rfl⟩
      · simp only [State.withLink_editOutput]
        exact ⟨s.editOutput _ _, _, _, rfl, rfl⟩
    · exact replies_refuse _ s l m

theorem replies_actReadMesh : Replies (actReadMesh body) s := by
  intro l m
  unfold actReadMesh
  split
  · split
    · exact ⟨s.bumpFree, _, _, rfl, rfl⟩
    · exact replies_refuse _ s l m
  · exact replies_refuse _ s l m

theorem replies_actReadBankInfo : Replies (actReadBankInfo body) s := by
  intro l m
  unfold actReadBankInfo
  dsimp only [State.withLink_readBank, State.withLink_bankItem]
  split
  · exact replies_refuse _ s l m
  · split
    · exact replies_refuse _ s l m
    · exact ⟨s.bumpFree, _, _, rfl, rfl⟩

theorem replies_actCommit : Replies actCommit s := by
  intro l m
  unfold actCommit
  dsimp only [State.withLink_pendingBank]
  split
  · exact ⟨s, _, _, rfl, rfl⟩
  · exact ⟨(s.setPendingBank _).setPendState _, _, _, rfl, rfl⟩

theorem replies_actDisarm : Replies actDisarm s := by
  intro l m
  unfold actDisarm
  dsimp only [State.withLink_banks]
  split
  · exact ⟨s.setPendState _, _, _, rfl, rfl⟩
  all_goals exact replies_refuse _ s l m

theorem replies_actProbe : Replies (actProbe body) s := by
  have hinside (u v : Nat) (l : Link) : (s.withLink l).insideRaster u v = s.insideRaster u v := rfl
  intro l m
  unfold actProbe
  simp only [State.withLink_mode, State.withLink_probe, hinside]
  split
  · exact replies_refuse _ s l m
  · split
    · exact replies_refuse _ s l m
    · split
      · split
        · exact replies_refuse _ s l m
        · exact ⟨{ s with probe := .waiting _ (u16At body 1) (u16At body 3) }, .ok, [], rfl, rfl⟩
        · exact ⟨{ s with probe := .waiting _ (u16At body 1) (u16At body 3) }, .ok, [], rfl, rfl⟩
      · exact replies_refuse _ s l m

theorem replies_actProbeRead : Replies actProbeRead s := by
  intro l m
  unfold actProbeRead
  dsimp only [State.withLink_probe]
  split
  · exact ⟨s, _, _, rfl, rfl⟩
  · exact replies_refuse _ s l m
  · exact replies_refuse _ s l m

theorem replies_loadInto (n : ProfileNo) (arm : Bool) : Replies (loadInto n arm) s := by
  intro l m
  unfold loadInto
  dsimp only [State.withLink_banks]
  split
  · exact replies_startOperation (s.setPendState .loading) _ l m
  all_goals exact replies_refuse _ s l m

theorem replies_actProfileLoad : Replies (actProfileLoad body) s := by
  intro l m
  unfold actProfileLoad
  dsimp only [State.withLink_profiles]
  split
  · split
    · exact replies_refuse _ s l m
    · exact replies_refuse _ s l m
    · exact replies_loadInto s _ _ l m
  · exact replies_refuse _ s l m

theorem replies_actProfileStore : Replies (actProfileStore body) s := by
  intro l m
  unfold actProfileStore
  dsimp only
  split
  · exact replies_refuse _ s l m
  · next n _ =>
    exact replies_ite (c := fun _ => (!labelGood (body.drop 4)) = true) (fun _ => .rfl) (replies_refuse _ s)
      (replies_ite (c := fun s => s.mode.inSetup = true) (fun _ => .rfl) (replies_refuse _ s)
        (replies_ite (c := fun s => BitVec.ofNat 16 (u16At body 1) ≠ s.banks.revision) (fun _ => .rfl)
          (replies_refuse _ s) (replies_startOperation s (ProfileStore.beginStore n
            (s.captureProfile (BitVec.ofNat 16 (u16At body 1)) (body.drop 4)))))) l m

theorem replies_actProfileErase : Replies (actProfileErase body) s := by
  intro l m
  unfold actProfileErase
  split
  · exact replies_refuse _ s l m
  · next n _ =>
    exact replies_ite (c := fun s => (s.profiles.entry n).held.isNone = true) (fun _ => .rfl)
      (replies_refuse _ s) (replies_startOperation s _) l m

theorem replies_actProfileSetBoot : Replies (actProfileSetBoot body) s := by
  intro l m
  unfold actProfileSetBoot
  dsimp only [State.withLink_profiles]
  split
  · exact replies_refuse _ s l m
  · exact replies_startOperation s _ l m
  · split
    · exact replies_refuse _ s l m
    · exact replies_refuse _ s l m
    · exact replies_startOperation s _ l m

end Rules

/-- R172, R173: the request of every frame is answered, whatever the link holds. -/
theorem replies_handleFrame (f : Frame) (env : Env) (s : State) : Replies (handleFrame f env) s := by
  intro l m
  unfold handleFrame
  split
  · exact replies_request _ _ (replies_actIdentify s) l m
  · exact replies_request _ _ (replies_actReset s) l m
  · exact replies_request _ _ (replies_actStatus s) l m
  · exact replies_request _ _ (replies_actFetch s) l m
  · exact replies_request _ _ (replies_actSetMask s _) l m
  · exact replies_request _ _ (replies_goDark s) l m
  · exact replies_request _ _ (replies_wakeUp s env) l m
  · exact replies_request _ _ (replies_actSetInputControl s _) l m
  · exact replies_request _ _ (replies_actAcceptInput s) l m
  · exact replies_request _ _ (replies_actSetFreePeriod s _) l m
  · exact replies_request _ _ (replies_actSetMaster s _) l m
  · exact replies_request _ _ (replies_actReadCounters s) l m
  · exact replies_request _ _ (replies_actSetSlipThreshold s _) l m
  · exact replies_request _ _ (replies_channelRequest s _ fun k l => s.withLink_enableChan l k) l m
  · exact replies_request _ _ (replies_channelRequest s _ fun k l => s.withLink_disableChan l k) l m
  · exact replies_request _ _ (replies_actOutputRejoin s _) l m
  · exact replies_request _ _ (replies_actSetOutputControl s _) l m
  · exact replies_request _ _ (replies_admitEdit (replies_actWriteScene s _)) l m
  · exact replies_request _ _ (replies_admitEdit (replies_actWriteLayout s _)) l m
  · exact replies_request _ _ (replies_admitEdit (replies_actWriteMesh s _)) l m
  · exact replies_request _ _ (replies_actReadMesh s _) l m
  · exact replies_request _ _ (replies_admitEdit (replies_actWriteCoverage s _)) l m
  · exact replies_request _ _ (replies_admitEdit (replies_actWriteTone s _)) l m
  · exact replies_request _ _ (replies_admitEdit (replies_actWriteTable s _)) l m
  · exact replies_request _ _ (replies_admitEdit (replies_actCommit s)) l m
  · exact replies_request _ _ (replies_actDisarm s) l m
  · exact replies_request _ _ (replies_admitEdit (replies_actRevert s)) l m
  · exact replies_request _ _ (replies_actReadBankInfo s _) l m
  · exact replies_request _ _ (replies_actProbe s _) l m
  · exact replies_request _ _ (replies_actProbeRead s) l m
  · exact replies_request _ _ (replies_admitProfile (replies_actProfileLoad s _)) l m
  · exact replies_request _ _ (replies_admitProfile (replies_actProfileStore s _)) l m
  · exact replies_request _ _ (replies_admitProfile (replies_actProfileErase s _)) l m
  · exact replies_request _ _ (replies_admitProfile (replies_actProfileSetBoot s _)) l m
  · exact replies_request _ _ (replies_actProfileList s) l m
  · exact replies_refuse _ s l m

end Sys2Proof.Machine
end

section
/-! PROOFS. Chapter 9, the link (R170 to R174): it stays sound over every step, frames wait or are discarded,
the two checks of the link and the refusals of STARTUP, the hand-over at the end of a reply, and the receiver. -/

namespace Sys2Proof.Machine

/-! ### The link after a request is handled -/

/-- The reply to the request being handled is sent, and nothing else of the link changes. -/
theorem handleFrame_link (f g : Frame) (env : Env) (s : State) (h : s.link.handling = some g) :
    ∃ st body, (handleFrame f env s).link =
      { s.link with sending := some ⟨g.code, g.tag, st, body⟩ } := by
  obtain ⟨t, st, body, he, _⟩ := replies_handleFrame f env s s.link s.link
  have hself : handleFrame f env s = (t.withLink s.link).answer st body := he
  have hhandling : (t.withLink s.link).link.handling = some g := h
  exact ⟨st, body, by rw [hself, State.answer_handling _ g _ _ hhandling]; rfl⟩

/-! ### Soundness -/

theorem State.LinkSound.of_link {s t : State} (h : s.LinkSound) (heq : t.link = s.link) : t.LinkSound := by
  obtain ⟨hreply, hwait, hrx⟩ := h
  exact ⟨heq ▸ hreply, heq ▸ hwait, heq ▸ hrx⟩

/-- With a request being handled and its reply being sent, any holding buffer and any sound receiver do. -/
theorem State.linkSound_of_handling {s : State} {g : Frame} {r : Reply} (hhandling : s.link.handling = some g)
    (hsending : s.link.sending = some r) (hrx : s.link.rx.Sound) : s.LinkSound :=
  ⟨by rw [hhandling, hsending]; rfl, fun _ => by rw [hhandling]; rfl, hrx⟩

theorem State.linkSound_handleFrame (f g : Frame) (env : Env) {s : State} (h : s.link.handling = some g)
    (hrx : s.link.rx.Sound) : (handleFrame f env s).LinkSound := by
  obtain ⟨st, body, hlink⟩ := handleFrame_link f g env s h
  refine State.linkSound_of_handling (g := g) (r := ⟨g.code, g.tag, st, body⟩) ?_ ?_ ?_
  · rw [hlink]
    exact h
  · rw [hlink]
  · rw [hlink]
    exact hrx

theorem State.LinkSound.setRx {s : State} (h : s.LinkSound) {r : Receiver} (hr : r.Sound) :
    (s.setRx r).LinkSound := ⟨h.replying, h.waiting, hr⟩

theorem State.LinkSound.discardPartial {s : State} (h : s.LinkSound) : s.discardPartial.LinkSound :=
  ⟨h.replying, h.waiting, trivial⟩

theorem State.LinkSound.completeFrame (f : Frame) (env : Env) {s : State} (h : s.LinkSound) :
    (completeFrame f env s).LinkSound := by
  unfold Machine.completeFrame
  rcases s.submit_cases f (handleFrame f env) with ⟨_, e⟩ | ⟨g, hg, _, e⟩ | ⟨_, _, _, _, e⟩
  · rw [e]
    exact State.linkSound_handleFrame f f env rfl trivial
  · rw [e]
    exact ⟨h.replying, fun _ => by simp [hg], trivial⟩
  · rw [e]
    exact ⟨h.replying, h.waiting, trivial⟩

theorem State.LinkSound.receive (byte : Byte) (env : Env) {s : State} (h : s.LinkSound) :
    (s.receive byte env).LinkSound := by
  have hrx := h.receiver
  unfold State.receive
  split
  · split
    · exact h.setRx (Nat.zero_le 3)
    · exact h
  · unfold State.headerDone
    dsimp only
    split
    · exact h.completeFrame _ env
    · split
      · exact h.setRx ⟨Nat.pos_of_ne_zero ‹_›, ‹_›⟩
      · exact h.discardPartial
  · next bytes hthree hheader =>
    rw [hheader] at hrx
    refine h.setRx ?_
    have hlength : bytes.length ≠ 3 := fun hl => by
      obtain ⟨code, tag, low, rfl⟩ := List.length_eq_three.1 hl
      exact hthree code tag low rfl
    have hle : bytes.length ≤ 3 := hrx
    simp only [Receiver.Sound, List.length_append, List.length_singleton]
    omega
  · next code tag length bytes hbody =>
    rw [hbody] at hrx
    split
    · exact h.completeFrame _ env
    · refine h.setRx ⟨?_, hrx.2⟩
      simp only [List.length_append, List.length_singleton]
      omega

theorem State.LinkSound.receiveError (e : ReceiveError) {s : State} (h : s.LinkSound) :
    (s.receiveError e).LinkSound := by
  unfold State.receiveError
  split
  · exact h
  · exact h.discardPartial
  · split
    · exact h.discardPartial
    · exact h
  · exact h.discardPartial
  · exact h

theorem State.LinkSound.nextRequest (env : Env) {s : State} (h : s.LinkSound) :
    (s.nextRequest env).LinkSound := by
  unfold State.nextRequest
  split
  · next hnone =>
    refine ⟨rfl, fun hsome => ?_, h.receiver⟩
    rw [hnone] at hsome
    contradiction
  · exact State.linkSound_handleFrame _ _ env rfl h.receiver

theorem State.restart_linkSound (straps : BitVec 2) (s : State) : (s.restart straps).LinkSound :=
  ⟨rfl, fun h => (nomatch h), trivial⟩

/-- An event of another block leaves the link alone. -/
theorem State.LinkSound.unless {s t : State} {p : Prop} [Decidable p] (h : s.LinkSound) (heq : t.link = s.link) :
    (if p then s else t).LinkSound := by
  split
  · exact h
  · exact h.of_link heq

/-- Every command keeps the link sound: a request frame or a byte by the link's own rules, any other by
leaving it alone. -/
theorem exec_linkSound (c : Instr) {s t : State} (h : s.LinkSound) (hexec : exec c s = .next t) :
    t.LinkSound := by
  cases hc : c.frame? with
  | some f =>
    obtain ⟨env, he⟩ := exec_request c f hc
    cases (he s).symm.trans hexec
    exact h.completeFrame f env
  | none =>
    cases c with
    | resetN straps =>
      cases hexec
      exact s.restart_linkSound straps
    | wakeN env =>
      cases hexec
      exact h.of_link (by simp)
    | inputValidFall =>
      cases hexec
      exact State.LinkSound.unless (s := s.presentValid false) (h.of_link rfl) (by simp)
    | inputFrameStart valid time env =>
      cases hexec
      exact State.LinkSound.unless (s := s.presentValid valid) (h.of_link rfl) (by simp)
    | inputFrameEnd valid frame =>
      cases hexec
      exact State.LinkSound.unless (s := s.presentValid valid) (h.of_link rfl) (by simp)
    | inputLossGuardExpiry =>
      cases hexec
      exact h.unless (by simp)
    | acquisitionTimerExpiry =>
      cases hexec
      split
      · exact h.of_link (by simp)
      · exact h
    | holdTimerExpiry =>
      cases hexec
      split
      · exact h.of_link (by simp)
      · exact h
    | presentationFrameStart env =>
      cases hexec
      split
      · exact h.of_link (by simp)
      · exact h
    | copyBackCompletion =>
      cases hexec
      split
      · exact h.of_link (by simp)
      · exact h
    | loadCompletion good =>
      cases hexec
      split
      · exact h.of_link (by simp)
      · exact h
    | storeCompletion verified written =>
      cases hexec
      split
      · exact h.of_link (by simp)
      · exact h
    | eraseCompletion blank written =>
      cases hexec
      split
      · exact h.of_link (by simp)
      · exact h
    | directoryCompletion written =>
      cases hexec
      split
      · exact h.of_link (by simp)
      · exact h
    | scanCompletion =>
      cases hexec
      split
      · exact h.of_link (by simp)
      · exact h
    | profileAreaExamined reading =>
      cases hexec
      split
      · exact h.of_link (by simp)
      · exact h
    | directoryWriteBegin =>
      cases hexec
      exact h.of_link rfl
    | interByteGapExpiry =>
      cases hexec
      split
      · exact h
      · exact h.discardPartial
      · exact h.discardPartial
    | frameReceiveError error =>
      cases hexec
      exact h.receiveError error
    | rxdByteReceived byte env =>
      cases hexec
      exact h.receive byte env
    | replyTransmitEnd env =>
      cases hexec
      split
      · exact h
      · split
        · exact s.restart_linkSound env.straps
        · exact h.nextRequest env
    | _ => cases hc

/-- Settles O13: a step runs one command, and every command keeps the link sound. -/
theorem everyStepKeepsTheLinkSound : Obligations.EveryStepKeepsTheLinkSound := by
  intro s t h hstep
  unfold step at hstep
  split at hstep
  · cases hstep
    exact h
  · next c rest _ =>
    have hpopped : State.LinkSound { s with pending := rest } := h.of_link rfl
    exact exec_linkSound c hpopped hstep

/-! ### Waiting and discarding (R172) -/

/-- Settles O17: every request command is the completion of its frame, which the link lets wait or
discards. -/
theorem requestWaitsOrIsDiscarded : Obligations.RequestWaitsOrIsDiscarded := by
  intro c f g s hc hhandling
  obtain ⟨env, he⟩ := exec_request c f hc
  refine ⟨fun hempty => ?_, fun w hfull => ?_⟩
  · rw [he, completeFrame, s.submit_waits f g _ hhandling hempty]
    simp only [hhandling]
  · rw [he, completeFrame, s.submit_discarded f g w _ hhandling hfull]
    simp only [State.flagLinkDiscard, State.setFlags, hhandling, hfull]

/-! ### The two checks of the link, and STARTUP (R173, R164) -/

theorem bankInfoFits_eq (body : List Byte) : bankInfoFits body = catalogueFits 0x3B body := by
  have hlength : bankInfoLength (byteAt body 1) =
      if byteAt body 1 = 3 then 6 else if byteAt body 1 = 1 ∨ byteAt body 1 = 2 then 3 else 2 := by
    unfold bankInfoLength
    split <;> simp_all
  unfold bankInfoFits
  rw [hlength]
  rfl

/-- The requests that STARTUP takes: IDENTIFY, STATUS, FETCH and PROFILE_LIST. -/
def takenInStartup (code : Byte) : Prop := code = 0x01 ∨ code = 0x03 ∨ code = 0x04 ∨ code = 0x54

/-- R173: a code of the catalogue passes its frame to its owner's rule `act` behind the check of its length,
and any other is refused. -/
theorem handleFrame_by_catalogue (f : Frame) (env : Env) :
    (f.code.toNat ∉ catalogueCodes ∧ ∀ s, handleFrame f env s = s.refuse .unknownRequest) ∨
    (f.code.toNat ∈ catalogueCodes ∧ ∃ early act, (early = true → takenInStartup f.code) ∧
      ∀ s, handleFrame f env s = request (catalogueFits f.code.toNat f.body) early act s) := by
  by_cases hmem : f.code.toNat ∈ catalogueCodes
  · refine .inr ⟨hmem, ?_⟩
    have late {p : Prop} (h : false = true) : p := nomatch h
    obtain ⟨code, tag, body⟩ := f
    have hcode : code ∈ catalogueCodes.map (BitVec.ofNat 8) :=
      List.mem_map.2 ⟨code.toNat, hmem, BitVec.ofNat_toNat 8 code⟩
    simp only [catalogueCodes, List.map_cons, List.map_nil, List.mem_cons, List.not_mem_nil, or_false] at hcode
    rcases hcode with rfl | rfl | rfl | rfl | rfl | rfl | rfl | rfl | rfl | rfl | rfl | rfl | rfl | rfl | rfl | rfl | rfl | rfl | rfl | rfl | rfl | rfl | rfl | rfl | rfl | rfl | rfl | rfl | rfl | rfl | rfl | rfl | rfl | rfl | rfl
    · exact ⟨true, actIdentify, fun _ => .inl rfl, fun _ => rfl⟩
    · exact ⟨false, actReset, late, fun _ => rfl⟩
    · exact ⟨true, actStatus, fun _ => .inr (.inl rfl), fun _ => rfl⟩
    · exact ⟨true, actFetch, fun _ => .inr (.inr (.inl rfl)), fun _ => rfl⟩
    · exact ⟨false, actSetMask body, late, fun _ => rfl⟩
    · exact ⟨false, fun s => s.goDark.answerMode, late, fun _ => rfl⟩
    · exact ⟨false, fun s => (s.wakeUp env).answerMode, late, fun _ => rfl⟩
    · exact ⟨false, actSetInputControl body, late, fun _ => rfl⟩
    · exact ⟨false, actAcceptInput, late, fun _ => rfl⟩
    · exact ⟨false, actSetFreePeriod body, late, fun _ => rfl⟩
    · exact ⟨false, actSetMaster body, late, fun _ => rfl⟩
    · exact ⟨false, actReadCounters, late, fun _ => rfl⟩
    · exact ⟨false, actSetSlipThreshold body, late, fun _ => rfl⟩
    · exact ⟨false, channelRequest body State.enableChan, late, fun _ => rfl⟩
    · exact ⟨false, channelRequest body State.disableChan, late, fun _ => rfl⟩
    · exact ⟨false, actOutputRejoin body, late, fun _ => rfl⟩
    · exact ⟨false, actSetOutputControl body, late, fun _ => rfl⟩
    · exact ⟨false, admitEdit (actWriteScene body), late, fun _ => rfl⟩
    · exact ⟨false, admitEdit (actWriteLayout body), late, fun _ => rfl⟩
    · exact ⟨false, admitEdit (actWriteMesh body), late, fun _ => rfl⟩
    · exact ⟨false, actReadMesh body, late, fun _ => rfl⟩
    · exact ⟨false, admitEdit (actWriteCoverage body), late, fun _ => rfl⟩
    · exact ⟨false, admitEdit (actWriteTone body), late, fun _ => rfl⟩
    · exact ⟨false, admitEdit (actWriteTable body), late, fun _ => rfl⟩
    · exact ⟨false, admitEdit actCommit, late, fun _ => rfl⟩
    · exact ⟨false, actDisarm, late, fun _ => rfl⟩
    · exact ⟨false, admitEdit actRevert, late, fun _ => rfl⟩
    · exact ⟨false, actReadBankInfo body, late, fun s => congrArg (fun fits => request fits false (actReadBankInfo body) s)
        (bankInfoFits_eq body)⟩
    · exact ⟨false, actProbe body, late, fun _ => rfl⟩
    · exact ⟨false, actProbeRead, late, fun _ => rfl⟩
    · exact ⟨false, admitProfile (actProfileLoad body), late, fun _ => rfl⟩
    · exact ⟨false, admitProfile (actProfileStore body), late, fun _ => rfl⟩
    · exact ⟨false, admitProfile (actProfileErase body), late, fun _ => rfl⟩
    · exact ⟨false, admitProfile (actProfileSetBoot body), late, fun _ => rfl⟩
    · exact ⟨true, actProfileList, fun _ => .inr (.inr (.inr rfl)), fun _ => rfl⟩
  · refine .inl ⟨hmem, fun s => ?_⟩
    unfold handleFrame
    split
    case h_36 => rfl
    all_goals next h => exact absurd (by rw [h]; decide) hmem

/-- Settles O18: the frame's code finds its owner in the catalogue or is refused, the length is checked
next, and STARTUP refuses what it does not take. -/
theorem linkAndStartupRefusals : Obligations.LinkAndStartupRefusals := by
  intro c f s hc hfree
  obtain ⟨env, he⟩ := exec_request c f hc
  have hexec : exec c s = .next (handleFrame f env (s.handlingOf f)) := by
    rw [he, completeFrame, s.submit_free f _ hfree]
    rfl
  rw [hexec]
  rcases handleFrame_by_catalogue f env with ⟨hunknown, hrefuse⟩ | ⟨hknown, early, act, hearly, hpass⟩
  · exact ⟨fun _ => congrArg _ (hrefuse _), fun h => absurd h hunknown, fun _ h => absurd h hunknown⟩
  · refine ⟨fun h => absurd hknown h, fun _ hlength => ?_, fun hstartup _ hlength h1 h3 h4 h54 => ?_⟩
    · rw [hpass, hlength]
      rfl
    · have hlate : early = false := by
        cases hearly' : early with
        | false => rfl
        | true =>
          rcases hearly hearly' with h | h | h | h
          · exact absurd h h1
          · exact absurd h h3
          · exact absurd h h4
          · exact absurd h h54
      have hmode : (s.handlingOf f).mode.mode = .startup := hstartup
      rw [hpass, hlength, hlate]
      simp only [request, hmode, Bool.not_true, Bool.false_eq_true, if_false, decide_true, Bool.not_false,
        Bool.and_self, if_true]
      rfl

/-! ### The end of a reply (R172) -/

/-- Only a WAKE looks at what the part senses. -/
theorem handleFrame_env (f : Frame) (env env' : Env) (h : f.code ≠ 0x09) (s : State) :
    handleFrame f env s = handleFrame f env' s := by
  unfold handleFrame
  split
  case h_7 hcode => exact absurd (BitVec.eq_of_toNat_eq hcode) h
  all_goals rfl

theorem exec_replyTransmitEnd (s : State) (env : Env) (r : Reply) (hsending : s.link.sending = some r)
    (hr : ¬ (r.code = 0x02 ∧ r.status = .ok)) :
    exec (.replyTransmitEnd env) s = .next (s.nextRequest env) := by
  have hstarts : r.startsReset = false := by simpa [Reply.startsReset] using hr
  simp only [exec, execReplyTransmitEnd, hsending, hstarts, Bool.false_eq_true, if_false]

/-- Settles O19: the waiting frame is handled under the link of the hand-over, where it has the effect and
the reply that it has under the link of a frame that completes at once. -/
theorem replyEndHandsOverTheWaitingRequest : Obligations.ReplyEndHandsOverTheWaitingRequest := by
  intro s env r hsending hr
  rw [exec_replyTransmitEnd s env r hsending hr]
  refine ⟨fun hempty => ?_, fun f hf => ?_⟩
  · simp only [State.nextRequest, hempty]
  · have hnext : s.nextRequest env = handleFrame f env (s.withLink ⟨s.link.rx, none, some f, none⟩) := by
      simp only [State.nextRequest, hf]
      rfl
    rw [hnext]
    obtain ⟨t, st, body, hwaited, hcompleted⟩ := replies_handleFrame f env s
      ⟨s.link.rx, none, some f, none⟩ ⟨.hunt, none, some f, none⟩
    refine ⟨⟨_, st, body, rfl, by rw [hwaited]; rfl⟩, fun c hc hwake => ?_⟩
    have hexec : exec c { s with link := ⟨.hunt, none, none, none⟩ } =
        .next (handleFrame f env (s.withLink ⟨.hunt, none, some f, none⟩)) := by
      by_cases hcode : f.code = 0x09
      · obtain ⟨code, tag, body⟩ := f
        obtain rfl : code = 0x09 := hcode
        rw [hwake rfl]
        rfl
      · obtain ⟨env', he⟩ := exec_request c f hc
        rw [he, handleFrame_env f env env' hcode]
        rfl
    exact ⟨_, hexec, by rw [hwaited, hcompleted]; rfl⟩

/-! ### The receiver (R170, R171) -/

/-- Settles O20: the receiver by its state, byte by byte and error by error. -/
theorem receiverAssemblesAndDiscardsFrames : Obligations.ReceiverAssemblesAndDiscardsFrames := by
  intro s b env
  refine ⟨fun hhunt => ?hunt, fun bytes hheader hshort => ?header, fun code tag low hheader => ?length,
    fun code tag n bytes hbody => ?body, fun hpartial => ?errors⟩
  case hunt =>
    refine ⟨?_, ?_, fun e => ?_⟩
    · simp only [exec, execRxdByteReceived, State.receive, hhunt]
      rfl
    · simp only [exec, execInterByteGapExpiry, hhunt]
    · cases e <;> simp only [exec, execFrameReceiveError, State.receiveError, hhunt]
  case header =>
    simp only [exec, execRxdByteReceived, State.receive, hheader]
    rcases bytes with _ | ⟨code, _ | ⟨tag, _ | ⟨low, rest⟩⟩⟩
    · rfl
    · rfl
    · rfl
    · simp only [List.length_cons] at hshort
      omega
  case length =>
    have hreceive : exec (.rxdByteReceived b env) s = .next (s.headerDone code tag low b env) := by
      simp only [exec, execRxdByteReceived, State.receive, hheader]
    rw [hreceive]
    refine ⟨fun hzero => ?_, fun hlow hhigh => ?_, fun hover => ?_, ?_⟩
    · simp only [State.headerDone, hzero, if_true]
      rfl
    · simp only [State.headerDone, Nat.ne_of_gt hlow, if_false]
      rw [if_pos (show _ ≤ Config.maxBody from hhigh)]
      rfl
    · simp only [State.headerDone, Nat.ne_of_gt (Nat.lt_of_lt_of_le (by decide : 0 < 1024) hover.le), if_false]
      rw [if_neg (show ¬ _ ≤ Config.maxBody from Nat.not_le.2 hover)]
      rfl
    · simp only [exec, execFrameReceiveError, State.receiveError, hheader]
      rfl
  case body =>
    have hreceive : exec (.rxdByteReceived b env) s =
        .next (if n ≤ bytes.length + 1 then completeFrame ⟨code, tag, bytes ++ [b]⟩ env s
          else s.setRx (.body code tag n (bytes ++ [b]))) := by
      simp only [exec, execRxdByteReceived, State.receive, hbody]
    rw [hreceive]
    refine ⟨fun hmore => ?_, fun hlast => ?_⟩
    · rw [if_neg (Nat.not_le.2 hmore)]
      rfl
    · rw [if_pos hlast.ge]
      rfl
  case errors =>
    cases hrx : s.link.rx with
    | hunt => exact absurd hrx hpartial
    | header bytes =>
      simp only [exec, execInterByteGapExpiry, execFrameReceiveError, State.receiveError, hrx]
      exact ⟨rfl, trivial⟩
    | body code tag n bytes =>
      simp only [exec, execInterByteGapExpiry, execFrameReceiveError, State.receiveError, hrx]
      exact ⟨rfl, trivial⟩

end Sys2Proof.Machine
end

section
/-! PROOFS. Reset (R164, R180): the reset state meets every relation that steps keep and holds the manual's
values, and RESET_N and the end of a RESET's reply bring every block to them. -/

namespace Sys2Proof.Machine

/-! ### The relations hold after reset -/

/-- An image that holds no profile holds every relation between profiles. -/
theorem freshFlash_stores (Q : Profile → Prop) : StoreHolds Q (resetProfiles freshFlash) where
  areas := fun a ha => by
    rw [List.eq_of_mem_replicate ha]
    exact fun p hp => nomatch hp
  ctl := trivial

theorem freshFlash_whole : ProfileStoreWhole (resetProfiles freshFlash) where
  entries := List.length_replicate
  areas := List.length_replicate
  counts := fun e he => by
    rw [List.eq_of_mem_replicate he]
    exact Nat.zero_le _
  scanned := fun n hn => by
    rw [List.eq_of_mem_replicate hn]
    exact Nat.zero_le _
  copy0 := fun d hd => nomatch hd
  copy1 := fun d hd => nomatch hd
  examined := Nat.zero_le _

theorem State.reset_active : State.reset.active = defaultStore := rfl

theorem State.reset_pendingBank : State.reset.pendingBank = defaultStore := rfl

theorem defaultStore_scene : defaultStore.scene = defaultScene := by simp only [defaultStore]

/-- Settles O14: each relation by what reset gives the blocks it speaks of. -/
theorem resetMeetsEveryRelation : Obligations.ResetMeetsEveryRelation := by
  refine ⟨rfl, ⟨by decide, rfl⟩, State.reset_channelsSound, fun h => (nomatch h),
    State.buffersSound_of_empty rfl rfl, ?pictures, ?valid, ?banks, ?registers, ?directory,
    ⟨rfl, fun h => (nomatch h), trivial⟩⟩
  case pictures =>
    intro b
    have hmem : State.reset.frames.mem.get b = blankPicture := Three.get_all _ b
    rw [hmem]
    rfl
  case valid =>
    refine State.reset.scenesValid_iff.2 ⟨?_, fun h => (nomatch h), freshFlash_stores _⟩
    rw [State.reset_active, defaultStore_scene]
    exact defaultScene_valid
  case banks =>
    refine State.reset.banksInRange_iff.2 ⟨?_, ?_, freshFlash_stores _⟩
    · rw [State.reset_active, defaultStore_scene]
      exact defaultScene_inRange
    · rw [State.reset_pendingBank, defaultStore_scene]
      exact defaultScene_inRange
  case registers => exact State.reset.registersInRange_iff.2 ⟨State.reset_ranged, freshFlash_stores _⟩
  case directory => exact State.reset.directoryWhole_iff.2 freshFlash_whole

/-! ### The values (R129, R43, R84, R86) -/

theorem State.reset_readBank (pending : Bool) : State.reset.readBank pending = defaultStore := by
  cases pending <;> rfl

theorem getElem?_map_range {α : Type} {f : Nat → α} {n i : Nat} (h : i < n) :
    ((List.range n).map f)[i]? = some (f i) := by
  rw [List.getElem?_map, List.getElem?_range h]
  rfl

/-- No cell of the default banks is flagged. -/
theorem defaultStore_flagOf (k : Output) (n : Nat) : defaultStore.flagOf k n = false := by
  have hflags : defaultStore.flags.get k = List.replicate Config.meshRecords false := by
    simp only [defaultStore, Four.get_all, clearFlags]
  rw [BankStore.flagOf, hflags, List.getD_eq_getElem?_getD, List.getElem?_replicate]
  split <;> rfl

theorem defaultScene_outs (k : Output) : defaultScene.outs.get k = defaultOutput := by
  simp only [defaultScene, Four.get_all]

theorem State.reset_entry (n : ProfileNo) : State.reset.profiles.entry n = ⟨none, 0⟩ := by
  have hentries : State.reset.profiles.entries = List.replicate 8 emptyEntry := rfl
  rw [ProfileStore.entry, hentries, List.getD_eq_getElem?_getD, List.getElem?_replicate]
  split <;> rfl

/-- Settles O15: the registers by definition, the tables and meshes entry by entry. -/
theorem resetValuesAreTheManuals : Obligations.ResetValuesAreTheManuals := by
  refine ⟨rfl, rfl, rfl, rfl, rfl, rfl, rfl, rfl, rfl, rfl, rfl, rfl, rfl, rfl, rfl, rfl, rfl, rfl, rfl, rfl,
    rfl, rfl, rfl, rfl, fun k => ?chans, rfl, rfl, fun pending => ?banks, rfl, rfl, rfl, State.reset_entry,
    rfl, rfl, rfl, rfl⟩
  case chans =>
    have hchan : State.reset.chans.get k = resetChannel := Four.get_all _ k
    rw [hchan]
    exact ⟨rfl, rfl, rfl, rfl, rfl, rfl⟩
  case banks =>
    rw [State.reset_readBank, defaultStore_scene]
    refine ⟨rfl, rfl, rfl, rfl, rfl, ?_, fun i hi => ?_, fun k => ?outs⟩
    · rw [defaultScene_decode, defaultDecode_length]
    · rw [defaultScene_decode]
      exact getElem?_map_range hi
    case outs =>
      rw [defaultScene_outs]
      refine ⟨rfl, ?_, fun n hn => ?_, rfl, rfl, ?_, fun i hi => ?_, defaultStore_flagOf k⟩
      · rw [defaultOutput_points, defaultPoints_length]
      · rw [defaultOutput_points]
        exact getElem?_map_range hn
      · rw [defaultOutput_encode, defaultEncode_length]
      · rw [defaultOutput_encode]
        exact getElem?_map_range hi

/-! ### The two resets (R164, R180) -/

/-- Settles O16: RESET_N restarts by definition, an OK reply to RESET starts the same restart at its end,
and the request itself only replies. -/
theorem bothResetsRestoreTheResetValues : Obligations.BothResetsRestoreTheResetValues := by
  intro s env tag body
  refine ⟨rfl, fun hsending => ?_, fun hfree => ?_⟩
  · have hstarts : Reply.startsReset ⟨0x02, tag, .ok, body⟩ = true := rfl
    simp only [exec, execReplyTransmitEnd, hsending, hstarts, if_true, execResetN]
  · exact congrArg Host.Outcome.next (State.submit_request s _ _ actReset hfree rfl)

end Sys2Proof.Machine
end

section
/-! PROOFS. The plain requests: IDENTIFY (R188), STANDBY (R166), SET_FREE_PERIOD (R37), SET_MASTER (R42) and
DISARM and REVERT with the end of a copy-back (R139, R140, R150). -/

namespace Sys2Proof.Machine

/-! ### IDENTIFY (R188) -/

/-- Settles O21: every mode takes IDENTIFY, whose rule only replies. -/
theorem identifyReportsThePart : Obligations.IdentifyReportsThePart := by
  intro s tag hfree
  have hstraps : BitVec.ofNat 8 s.pins.straps.toNat = s.pins.straps.setWidth 8 := BitVec.ofNat_toNat 8 _
  have hpassed : exec (.identify tag []) s = .next (s.replied ⟨0x01, tag, []⟩ .ok s.identity) :=
    congrArg Host.Outcome.next (State.submit_early s _ _ actIdentify hfree rfl)
  rw [hpassed, ← hstraps]
  rfl

/-! ### STANDBY (R166) -/

/-- In DIMMING the master target is 0. -/
theorem State.targetOf_of_dimming {s : State} (h : s.mode.mode = .dimming) : s.targetOf = 0 := by
  simp [State.targetOf, h]

/-- R166: the entry to DIMMING. -/
theorem State.startDimming_eq (s : State) (home : HomeMode) :
    s.startDimming home = { s with
      mode := ⟨.dimming, home⟩
      ind := s.ind.posted (.modeChange .dimming) s.timer.counter
      master := { s.master with target := 0 } } := by
  rw [State.startDimming, State.changeMode, State.post_eq, State.retarget, State.targetOf_of_dimming rfl]
  rfl

/-- Settles O24: outside STARTUP the request dims from its own mode or leaves the part alone, and replies with
the mode. -/
theorem standbyRequestStartsDimming : Obligations.StandbyRequestStartsDimming := by
  intro s tag hfree
  have hpassed : exec (.standby tag []) s = .next (s.unlessStarting ⟨0x08, tag, []⟩
      (s.handlingOf ⟨0x08, tag, []⟩).goDark.answerMode) :=
    congrArg Host.Outcome.next
      (State.submit_request s _ _ (fun s => s.goDark.answerMode) hfree rfl)
  rw [hpassed]
  refine ⟨fun home hmode => ?_, fun hdark => ?_, fun hstartup => ?_⟩
  · have hstarted : s.mode.mode ≠ .startup := by
      rw [hmode]
      cases home <;> decide
    have hdims : (s.handlingOf ⟨0x08, tag, []⟩).goDark =
        (s.handlingOf ⟨0x08, tag, []⟩).startDimming home := by
      have hsame : (s.handlingOf ⟨0x08, tag, []⟩).mode.mode = home.toMode := hmode
      rw [State.goDark, hsame]
      cases home <;> rfl
    rw [State.unlessStarting, if_neg hstarted, hdims, State.startDimming_eq]
    rfl
  · have hstarted : s.mode.mode ≠ .startup := by
      rcases hdark with h | h <;> rw [h] <;> decide
    have hstays : (s.handlingOf ⟨0x08, tag, []⟩).goDark = s.handlingOf ⟨0x08, tag, []⟩ := by
      have hsame : (s.handlingOf ⟨0x08, tag, []⟩).mode.mode = s.mode.mode := rfl
      rw [State.goDark, hsame]
      rcases hdark with h | h <;> rw [h]
    rw [State.unlessStarting, if_neg hstarted, hstays]
    rfl
  · rw [State.unlessStarting, if_pos hstartup]

/-! ### SET_FREE_PERIOD (R37) -/

/-- R175: the status that goes with a clamp. -/
theorem okOr_clamps (lo hi v : Nat) : okOr (clamps lo hi v) = if v < lo ∨ hi < v then .clamped else .ok := by
  by_cases h : v < lo ∨ hi < v
  · rw [if_pos h, (clamps_iff lo hi v).2 h]
    rfl
  · rw [if_neg h, Bool.eq_false_iff.2 (mt (clamps_iff lo hi v).1 h)]
    rfl

/-- Settles O28: outside STARTUP the rule clamps the value, writes the periods and replies. -/
theorem setFreePeriodWritesThePeriods : Obligations.SetFreePeriodWritesThePeriods := by
  intro s tag body hfree hlength
  have hpassed : exec (.setFreePeriod tag body) s = .next (s.unlessStarting ⟨0x18, tag, body⟩
      (actSetFreePeriod body (s.handlingOf ⟨0x18, tag, body⟩))) :=
    congrArg Host.Outcome.next
      (State.submit_request s _ _ (actSetFreePeriod body) hfree (decide_eq_true hlength))
  rw [hpassed, actSetFreePeriod, clamp_eq_max_min (by decide), okOr_clamps]
  rfl

/-! ### SET_MASTER (R42) -/

theorem onOff?_eq (v : Nat) : onOff? v = if 1 < v then none else some (decide (v = 1)) := by
  match v with
  | 0 | 1 => rfl
  | n + 2 => simp [onOff?]

/-- R177: the byte of a previous on/off value. -/
theorem b8_prior_boolCode (marked b : Bool) :
    b8 (prior marked (boolCode b)) = if marked ∧ b then [1] else [0] := by
  cases marked <;> cases b <;> rfl

theorem b16_prior (marked : Bool) (v : Nat) : b16 (prior marked v) = if marked then b16 v else [0, 0] := by
  cases marked <;> simp [prior, b16]

theorem okOr_marked_clamps (marked : Bool) (lo hi v : Nat) :
    okOr (marked && clamps lo hi v) = if marked ∧ (v < lo ∨ hi < v) then .clamped else .ok := by
  cases marked with
  | false => simp [okOr]
  | true => simpa using okOr_clamps lo hi v

/-- SET_MASTER taken: a carried mute out of its list refuses it whole. -/
theorem actSetMaster_handlingOf (s : State) (f : Frame) (body : List Byte) :
    actSetMaster body (s.handlingOf f) =
      if (byteAt body 0).testBit 0 ∧ 1 < byteAt body 1 then s.replied f .badArgument []
      else (State.retarget { s with master := { s.master with
          mute := if (byteAt body 0).testBit 0 then decide (byteAt body 1 = 1) else s.master.mute
          step := if (byteAt body 0).testBit 1 then max 1 (min 4096 (u16At body 2))
            else s.master.step } }).replied f
          (if (byteAt body 0).testBit 1 ∧ (u16At body 2 < 1 ∨ 4096 < u16At body 2) then .clamped else .ok)
          (BitVec.ofNat 8 (byteAt body 0) ::
            ((if (byteAt body 0).testBit 0 ∧ s.master.mute then [1] else [0]) ++
            (if (byteAt body 0).testBit 1 then b16 s.master.step else [0, 0]))) := by
  have hmute : carried (mark (byteAt body 0) 0) (onOff? (byteAt body 1)) s.master.mute =
      if (byteAt body 0).testBit 0 ∧ 1 < byteAt body 1 then none
      else some (if (byteAt body 0).testBit 0 then decide (byteAt body 1 = 1) else s.master.mute) := by
    rw [onOff?_eq, mark, carried]
    cases (byteAt body 0).testBit 0 <;> by_cases h : 1 < byteAt body 1 <;> simp [h]
  have hsame : (s.handlingOf f).master = s.master := rfl
  by_cases hbad : (byteAt body 0).testBit 0 = true ∧ 1 < byteAt body 1
  · simp only [actSetMaster, hsame, hmute, if_pos hbad]
    rfl
  · simp only [actSetMaster, hsame, hmute, if_neg hbad]
    rw [okOr_marked_clamps, b8_prior_boolCode, b16_prior, clamp_eq_max_min (by decide)]
    rfl

/-- Settles O29: outside STARTUP the link passes the request to its rule. -/
theorem setMasterWritesMuteAndStep : Obligations.SetMasterWritesMuteAndStep := by
  intro s tag body hfree hlength
  have hpassed : exec (.setMaster tag body) s = .next (s.unlessStarting ⟨0x19, tag, body⟩
      (actSetMaster body (s.handlingOf ⟨0x19, tag, body⟩))) :=
    congrArg Host.Outcome.next
      (State.submit_request s _ _ (actSetMaster body) hfree (decide_eq_true hlength))
  rw [hpassed, actSetMaster_handlingOf]

/-! ### DISARM, REVERT and the end of a copy-back (R139, R140, R150) -/

theorem State.finishCopyBack_banks (s : State) :
    s.finishCopyBack.banks = { s.banks.setPending s.banks.active with pendState := .editable } := by
  rw [State.finishCopyBack, State.post_eq]
  rfl

theorem Banks.setPending_activeIsOne (b : Banks) (st : BankStore) :
    (b.setPending st).activeIsOne = b.activeIsOne := by
  unfold Banks.setPending
  split <;> rfl

/-- Settles O43: each request by pending state; the end of a copy-back writes the pending store alone. -/
theorem disarmRevertAndCopyBack : Obligations.DisarmRevertAndCopyBack := by
  intro s tag
  refine ⟨fun hfree => ?disarm, fun hfree => ?revert, fun hsyncing => ?copyBack, fun hidle => ?outside⟩
  case disarm =>
    have hpassed : exec (.disarm tag []) s = .next (s.unlessStarting ⟨0x39, tag, []⟩
        (actDisarm (s.handlingOf ⟨0x39, tag, []⟩))) :=
      congrArg Host.Outcome.next (State.submit_request s _ _ actDisarm hfree rfl)
    have hsame : (s.handlingOf ⟨0x39, tag, []⟩).banks.pendState = s.banks.pendState := rfl
    rw [hpassed, actDisarm, hsame]
    cases s.banks.pendState <;> rfl
  case revert =>
    have hpassed : exec (.revert tag []) s = .next (Spec.editOutcome ⟨0x3A, tag, []⟩
        (actRevert (s.handlingOf ⟨0x3A, tag, []⟩)) s) :=
      congrArg Host.Outcome.next (State.submit_edit s _ _ actRevert hfree rfl)
    rw [hpassed, Spec.editOutcome, State.whenEditable]
    cases s.banks.pendState <;> rfl
  case copyBack =>
    refine ⟨s.finishCopyBack, ?_, ?_, ?_, ?_, ?_, ?_, ?_⟩
    · exact congrArg Host.Outcome.next (if_pos hsyncing)
    · rw [State.finishCopyBack, State.post_eq]
      rfl
    case refine_7 => simp [State.finishCopyBack_banks, Banks.setPending_activeIsOne]
    all_goals simp [State.pendingBank, State.active, State.finishCopyBack_banks]
  case outside => exact congrArg Host.Outcome.next (if_neg hidle)

end Sys2Proof.Machine
end

section
/-! PROOFS. Chapters 3 to 5, the edits of one output and of the tables (R46, R47, R66, R87, R89), and the
admission of every edit (R132, R136, R140). -/

namespace Sys2Proof.Machine

/-! ### The admission of an edit (R132) -/

/-- The codes of the edits, of COMMIT and of REVERT lead to rules behind the admission by pending state. -/
theorem handleFrame_edit (f : Frame) (env : Env)
    (h : f.code.toNat ∈ [0x30, 0x31, 0x32, 0x34, 0x35, 0x36, 0x38, 0x3A]) :
    ∃ act, ∀ s, handleFrame f env s = request (catalogueFits f.code.toNat f.body) false (admitEdit act) s := by
  obtain ⟨code, tag, body⟩ := f
  have hcode : code ∈ [0x30, 0x31, 0x32, 0x34, 0x35, 0x36, 0x38, 0x3A].map (BitVec.ofNat 8) :=
    List.mem_map.2 ⟨code.toNat, h, BitVec.ofNat_toNat 8 code⟩
  simp only [List.map_cons, List.map_nil, List.mem_cons, List.not_mem_nil, or_false] at hcode
  rcases hcode with rfl | rfl | rfl | rfl | rfl | rfl | rfl | rfl
  · exact ⟨actWriteScene body, fun _ => rfl⟩
  · exact ⟨actWriteLayout body, fun _ => rfl⟩
  · exact ⟨actWriteMesh body, fun _ => rfl⟩
  · exact ⟨actWriteCoverage body, fun _ => rfl⟩
  · exact ⟨actWriteTone body, fun _ => rfl⟩
  · exact ⟨actWriteTable body, fun _ => rfl⟩
  · exact ⟨actCommit, fun _ => rfl⟩
  · exact ⟨actRevert, fun _ => rfl⟩

/-- Settles O33: outside STARTUP the link passes the request to the admission by pending state, which refuses
it whatever its rule says. -/
theorem editsAreRefusedUnlessEditable : Obligations.EditsAreRefusedUnlessEditable := by
  intro c f s hc hfree hstarted hcode hfits
  obtain ⟨env, he⟩ := exec_request c f hc
  obtain ⟨act, hact⟩ := handleFrame_edit f env hcode
  have hpassed : exec c s = .next (s.whenEditable f (act (s.handlingOf f))) := by
    rw [he, completeFrame, funext hact, State.submit_edit s f _ act hfree hfits, Spec.editOutcome,
      State.unlessStarting, if_neg hstarted]
  rw [hpassed]
  refine ⟨fun harmed => ?_, fun hbusy => ?_⟩
  · rw [State.whenEditable, harmed]
  · rcases hbusy with h | h <;> rw [State.whenEditable, h]

/-! ### Batches as the statements put them (R46, R87) -/

theorem map_ne_self_iff {α : Type} (f : α → α) (l : List α) : l.map f ≠ l ↔ ∃ x ∈ l, f x ≠ x := by
  induction l with
  | nil => simp
  | cons a l ih =>
    rw [List.map_cons, ne_eq, List.cons.injEq, not_and_or, ← ne_eq (l.map f), ih]
    simp

/-- R46, R87: a batch of `count` new entries within the list. -/
theorem overwritten_overwrite {α : Type} {first count : Nat} (new : Nat → α) {old : List α}
    (h : first + count ≤ old.length) :
    Spec.Overwritten first count new old (overwrite first ((List.range count).map new) old) := by
  refine ⟨length_overwrite (by simpa using h), fun n hn => ?_⟩
  have htake : (old.take first).length = first := by
    rw [List.length_take]
    omega
  have hnew : ((List.range count).map new).length = count := by simp
  unfold overwrite
  by_cases hlow : n < first
  · rw [List.getElem?_append_left (by omega), List.getElem?_take_of_lt hlow,
      if_neg (fun hin => absurd hin.1 (Nat.not_le.2 hlow))]
  · rw [List.getElem?_append_right (by omega), htake]
    by_cases hin : n < first + count
    · rw [List.getElem?_append_left (by omega), getElem?_map_range (by omega), if_pos ⟨by omega, hin⟩]
    · rw [List.getElem?_append_right (by omega), hnew, List.getElem?_drop, if_neg (fun h => hin h.2)]
      congr 1
      omega

/-- R175: CLAMPED exactly when the batch as written is not the batch as carried. -/
theorem okOr_map_ne_iff {α : Type} [DecidableEq α] (f : α → α) (new : Nat → α) (count : Nat) :
    okOr (decide (((List.range count).map new).map f ≠ (List.range count).map new)) = .clamped ↔
      ∃ i < count, f (new i) ≠ new i := by
  rw [okOr_eq_clamped_iff, decide_eq_true_iff, map_ne_self_iff]
  simp

/-! ### WRITE_LAYOUT and WRITE_MESH (R47, R46) -/

theorem pitch?_of_mem {v : Nat} (h : v ∈ [16, 32, 64, 128]) : pitch? v = some v :=
  if_pos (by simpa using h)

theorem pitch?_of_not_mem {v : Nat} (h : v ∉ [16, 32, 64, 128]) : pitch? v = none :=
  if_neg (by simpa using h)

/-- R46: a record of a WRITE_MESH body, clamped. -/
theorem clamped_pointIn (body : List Byte) (i : Nat) :
    (pointIn body (4 + 10 * i)).clamped = Spec.pointOf body i := by
  have hy : 4 + 10 * i + 4 = 8 + 10 * i := by omega
  have hm : 4 + 10 * i + 8 = 12 + 10 * i := by omega
  rw [pointIn, hy, hm, Point.clamped, clampInt_eq_max_min (by decide), clampInt_eq_max_min (by decide)]
  rfl

/-- R46: clamping moves exactly a record out of its range. -/
theorem clamped_pointIn_ne_iff (body : List Byte) (i : Nat) :
    (pointIn body (4 + 10 * i)).clamped ≠ pointIn body (4 + 10 * i) ↔ Spec.pointOut body i := by
  have hy : 4 + 10 * i + 4 = 8 + 10 * i := by omega
  have hm : 4 + 10 * i + 8 = 12 + 10 * i := by omega
  rw [clamped_pointIn, pointIn, hy, hm, ne_eq, Spec.pointOf, Point.mk.injEq, Spec.pointOut]
  omega

theorem meshBatch_clamped (body : List Byte) :
    (meshBatch body).map Point.clamped = (List.range (byteAt body 3)).map (Spec.pointOf body) := by
  rw [meshBatch, List.map_map]
  exact List.map_congr_left fun i _ => clamped_pointIn body i

theorem batchFits_of_bad {first count size : Nat} (h : count < 1 ∨ 64 < count ∨ size < first + count) :
    batchFits first count size = false := by
  rw [Bool.eq_false_iff, ne_eq, batchFits_iff]
  omega

/-- WRITE_LAYOUT taken, or refused. -/
theorem actWriteLayout_refused (s : State) (f : Frame) (body : List Byte)
    (h : 3 < byteAt body 0 ∨ byteAt body 1 ∉ [16, 32, 64, 128]) :
    actWriteLayout body (s.handlingOf f) = s.replied f .badArgument [] := by
  unfold actWriteLayout
  rcases h with h | h
  · rw [output?_eq_none h]
    rfl
  · rw [pitch?_of_not_mem h]
    cases output? (byteAt body 0) <;> rfl

theorem actWriteLayout_taken (s : State) (f : Frame) (body : List Byte) (k : Output)
    (hk : byteAt body 0 = k.val) (hp : byteAt body 1 ∈ [16, 32, 64, 128]) :
    actWriteLayout body (s.handlingOf f) = (s.withPendingScene (s.pendingBank.scene.withOutput k
      { s.pendingBank.scene.outs.get k with pitch := byteAt body 1 })).replied f .ok [] := by
  rw [actWriteLayout, hk, output?_val, pitch?_of_mem hp]
  rfl

theorem actWriteMesh_refused (s : State) (f : Frame) (body : List Byte)
    (h : 3 < byteAt body 0 ∨ byteAt body 3 < 1 ∨ 64 < byteAt body 3 ∨ 1200 < u16At body 1 + byteAt body 3) :
    actWriteMesh body (s.handlingOf f) = s.replied f .badArgument [] := by
  unfold actWriteMesh
  rcases h with h | h
  · rw [output?_eq_none h]
    rfl
  · rw [batchFits_of_bad (size := Config.meshRecords) h]
    cases output? (byteAt body 0) <;> rfl

theorem actWriteMesh_taken (s : State) (f : Frame) (body : List Byte) (k : Output)
    (hk : byteAt body 0 = k.val) (hfits : batchFits (u16At body 1) (byteAt body 3) Config.meshRecords = true) :
    actWriteMesh body (s.handlingOf f) = (s.withPendingScene (s.pendingBank.scene.withOutput k
      { s.pendingBank.scene.outs.get k with
        points := overwrite (u16At body 1) ((meshBatch body).map Point.clamped) (s.pendingBank.scene.outs.get k).points })).replied f
        (okOr (decide ((meshBatch body).map Point.clamped ≠ meshBatch body))) [] := by
  rw [actWriteMesh, hk, output?_val]
  simp only [hfits, if_true]
  rfl

theorem writeMeshFits_of_length {body : List Byte} (h : body.length = 4 + 10 * byteAt body 3) :
    writeMeshFits body = true := by
  simp only [writeMeshFits, Bool.and_eq_true, decide_eq_true_eq]
  omega

/-- Settles O35: the link and the pending state admit the two edits to their rules, which write one output's
pitch, or a batch of its records, or refuse. -/
theorem writeLayoutAndMeshWriteOneOutput : Obligations.WriteLayoutAndMeshWriteOneOutput := by
  intro s tag body hfree
  refine ⟨fun hlength => ?layout, fun hlength => ?mesh⟩
  case layout =>
    have hpassed : exec (.writeLayout tag body) s = .next (Spec.editOutcome ⟨0x31, tag, body⟩
        (actWriteLayout body (s.handlingOf ⟨0x31, tag, body⟩)) s) :=
      congrArg Host.Outcome.next
        (State.submit_edit s _ _ (actWriteLayout body) hfree (decide_eq_true hlength))
    rw [hpassed]
    exact ⟨fun hbad => by rw [actWriteLayout_refused s _ body hbad],
      fun k hk hp => by rw [actWriteLayout_taken s _ body k hk hp]⟩
  case mesh =>
    have hpassed : exec (.writeMesh tag body) s = .next (Spec.editOutcome ⟨0x32, tag, body⟩
        (actWriteMesh body (s.handlingOf ⟨0x32, tag, body⟩)) s) :=
      congrArg Host.Outcome.next
        (State.submit_edit s _ _ (actWriteMesh body) hfree (writeMeshFits_of_length hlength))
    rw [hpassed]
    refine ⟨fun hbad => by rw [actWriteMesh_refused s _ body hbad],
      fun k hk hlow hhigh hfits hwhole =>
        ⟨overwrite (u16At body 1) ((meshBatch body).map Point.clamped) (s.pendingBank.scene.outs.get k).points,
          okOr (decide ((meshBatch body).map Point.clamped ≠ meshBatch body)), ?_, okOr_eq_ok_or_clamped _, ?_,
          by rw [actWriteMesh_taken s _ body k hk ((batchFits_iff _ _ _).2 ⟨hlow, hhigh, hfits⟩)]⟩⟩
    · rw [meshBatch_clamped]
      exact overwritten_overwrite _ (hwhole ▸ hfits)
    · refine (okOr_map_ne_iff Point.clamped _ _).trans ?_
      simp only [clamped_pointIn_ne_iff]

/-! ### WRITE_TABLE (R87) -/

theorem table?_of_bad {v : Nat} (h : 4 < v) : table? v = none := by
  rw [table?, if_neg (by omega), output?_eq_none (by omega)]
  rfl

theorem table?_of_output (k : Output) : table? (k.val + 1) = some (some k) := by
  rw [table?, if_neg (by omega), Nat.add_sub_cancel, output?_val]
  rfl

theorem writeTableFits_of_length {body : List Byte} (h : body.length = 4 + 2 * byteAt body 3) :
    writeTableFits body = true := by
  simp only [writeTableFits, Bool.and_eq_true, decide_eq_true_eq]
  omega

theorem actWriteTable_refused (s : State) (f : Frame) (body : List Byte)
    (h : 4 < byteAt body 0 ∨ byteAt body 3 < 1 ∨ 64 < byteAt body 3 ∨ 257 < u16At body 1 + byteAt body 3) :
    actWriteTable body (s.handlingOf f) = s.replied f .badArgument [] := by
  unfold actWriteTable
  rcases h with h | h
  · rw [table?_of_bad h]
    rfl
  · rw [batchFits_of_bad (size := Config.tableEntries) h]
    cases table? (byteAt body 0) <;> rfl

theorem actWriteTable_decode (s : State) (f : Frame) (body : List Byte) (h0 : byteAt body 0 = 0)
    (hfits : batchFits (u16At body 1) (byteAt body 3) Config.tableEntries = true) :
    actWriteTable body (s.handlingOf f) = (s.withPendingScene { s.pendingBank.scene with
      decode := overwrite (u16At body 1) (tableBatch body) s.pendingBank.scene.decode }).replied f .ok [] := by
  have htable : table? 0 = some none := rfl
  rw [actWriteTable, h0, htable]
  simp only [hfits, if_true]
  rfl

theorem actWriteTable_encode (s : State) (f : Frame) (body : List Byte) (k : Output)
    (hk : byteAt body 0 = k.val + 1)
    (hfits : batchFits (u16At body 1) (byteAt body 3) Config.tableEntries = true) :
    actWriteTable body (s.handlingOf f) = (s.withPendingScene (s.pendingBank.scene.withOutput k
      { s.pendingBank.scene.outs.get k with
        encode := overwrite (u16At body 1) ((tableBatch body).map (min Config.maxCode)) (s.pendingBank.scene.outs.get k).encode })).replied f
        (okOr (decide ((tableBatch body).map (min Config.maxCode) ≠ tableBatch body))) [] := by
  rw [actWriteTable, hk, table?_of_output]
  simp only [hfits, if_true]
  rfl

/-- Settles O36: the link and the pending state admit the edit to its rule, which writes a batch of the decode
table, or of an encode table with its entries limited, or refuses. -/
theorem writeTableWritesTheEntries : Obligations.WriteTableWritesTheEntries := by
  intro s tag body hfree hlength
  have hpassed : exec (.writeTable tag body) s = .next (Spec.editOutcome ⟨0x36, tag, body⟩
      (actWriteTable body (s.handlingOf ⟨0x36, tag, body⟩)) s) :=
    congrArg Host.Outcome.next
      (State.submit_edit s _ _ (actWriteTable body) hfree (writeTableFits_of_length hlength))
  rw [hpassed]
  refine ⟨fun hbad => by rw [actWriteTable_refused s _ body hbad], fun hlow hhigh hfits =>
    ⟨fun h0 hwhole => ⟨overwrite (u16At body 1) (tableBatch body) s.pendingBank.scene.decode, ?decode,
        by rw [actWriteTable_decode s _ body h0 ((batchFits_iff _ _ _).2 ⟨hlow, hhigh, hfits⟩)]⟩,
      fun k hk hwhole => ⟨overwrite (u16At body 1) ((tableBatch body).map (min Config.maxCode))
          (s.pendingBank.scene.outs.get k).encode,
        okOr (decide ((tableBatch body).map (min Config.maxCode) ≠ tableBatch body)), ?encode,
        okOr_eq_ok_or_clamped _, ?status,
        by rw [actWriteTable_encode s _ body k hk ((batchFits_iff _ _ _).2 ⟨hlow, hhigh, hfits⟩)]⟩⟩⟩
  case decode => exact overwritten_overwrite _ (hwhole ▸ hfits)
  case encode =>
    rw [tableBatch, List.map_map]
    exact overwritten_overwrite _ (hwhole ▸ hfits)
  case status =>
    refine (okOr_map_ne_iff (min Config.maxCode) _ _).trans ?_
    have hlimit (v : Nat) : min Config.maxCode v ≠ v ↔ 4095 < v := by
      rw [Config.maxCode]
      omega
    simp only [hlimit]

/-! ### WRITE_COVERAGE and WRITE_TONE (R66, R89) -/

theorem min_eq_iff_le {m v : Nat} : min m v = v ↔ ¬ m < v := by omega

theorem actWriteCoverage_taken (s : State) (f : Frame) (body : List Byte) (k : Output)
    (hk : byteAt body 0 = k.val) :
    actWriteCoverage body (s.handlingOf f) = (s.withPendingScene (s.pendingBank.scene.withOutput k
      { s.pendingBank.scene.outs.get k with coverage := (coverageIn body 1).clamped })).replied f
        (okOr (decide ((coverageIn body 1).clamped ≠ coverageIn body 1))) [] := by
  rw [actWriteCoverage, hk, output?_val]
  rfl

theorem actWriteTone_taken (s : State) (f : Frame) (body : List Byte) (k : Output)
    (hk : byteAt body 0 = k.val) :
    actWriteTone body (s.handlingOf f) = (s.withPendingScene (s.pendingBank.scene.withOutput k
      { s.pendingBank.scene.outs.get k with tone := (toneIn body 1).clamped })).replied f
        (okOr (decide ((toneIn body 1).clamped ≠ toneIn body 1))) [] := by
  rw [actWriteTone, hk, output?_val]
  rfl

/-- Settles O37: the link and the pending state admit the two edits to their rules, which write one output's
record, each value limited, or refuse. -/
theorem writeCoverageAndToneWriteTheRecord : Obligations.WriteCoverageAndToneWriteTheRecord := by
  intro s tag body hfree
  refine ⟨fun hlength => ?coverage, fun hlength => ?tone⟩
  case coverage =>
    have hpassed : exec (.writeCoverage tag body) s = .next (Spec.editOutcome ⟨0x34, tag, body⟩
        (actWriteCoverage body (s.handlingOf ⟨0x34, tag, body⟩)) s) :=
      congrArg Host.Outcome.next
        (State.submit_edit s _ _ (actWriteCoverage body) hfree (decide_eq_true hlength))
    rw [hpassed]
    refine ⟨fun hbad => ?_, fun k hk =>
      ⟨okOr (decide ((coverageIn body 1).clamped ≠ coverageIn body 1)), okOr_eq_ok_or_clamped _, ?_,
      by rw [actWriteCoverage_taken s _ body k hk]; rfl⟩⟩
    · rw [actWriteCoverage, output?_eq_none hbad]
      rfl
    · rw [okOr_eq_clamped_iff, decide_eq_true_iff, ne_eq, Coverage.clamped, coverageIn, Coverage.mk.injEq]
      simp only [Nat.reduceAdd, min_eq_iff_le, Config.maxCanvasW, Config.maxCanvasH, Config.maxFeather]
      omega
  case tone =>
    have hpassed : exec (.writeTone tag body) s = .next (Spec.editOutcome ⟨0x35, tag, body⟩
        (actWriteTone body (s.handlingOf ⟨0x35, tag, body⟩)) s) :=
      congrArg Host.Outcome.next
        (State.submit_edit s _ _ (actWriteTone body) hfree (decide_eq_true hlength))
    rw [hpassed]
    refine ⟨fun hbad => ?_, fun k hk =>
      ⟨okOr (decide ((toneIn body 1).clamped ≠ toneIn body 1)), okOr_eq_ok_or_clamped _, ?_,
      by rw [actWriteTone_taken s _ body k hk]; rfl⟩⟩
    · rw [actWriteTone, output?_eq_none hbad]
      rfl
    · rw [okOr_eq_clamped_iff, decide_eq_true_iff, ne_eq, Tone.clamped, toneIn, Tone.mk.injEq,
        Rgb.mk.injEq, Rgb.mk.injEq]
      simp only [Nat.reduceAdd, min_eq_iff_le, Config.maxToneGain, Config.maxFloor]
      omega

end Sys2Proof.Machine
end

section
/-! PROOFS. Chapter 6, SET_OUTPUT_CONTROL (R122), and Chapters 3 and 7, the reads of the banks (R48, R135). -/

namespace Sys2Proof.Machine

/-! ### Carried values and previous ones (R176, R177) -/

theorem carried_eq_some_iff {α : Type} (marked : Bool) (value : Option α) (kept x : α) :
    carried marked value kept = some x ↔ if marked then value = some x else x = kept := by
  cases marked
  · simp [carried, eq_comm]
  · simp [carried]

theorem policy?_eq_some_iff (v : Nat) (p : Policy) : policy? v = some p ↔ v = p.code := by
  unfold policy?
  split <;> cases p <;> simp_all [Policy.code]

theorem path?_eq_some_iff (v : Nat) (p : PathMode) : path? v = some p ↔ v = p.code := by
  unfold path?
  split <;> cases p <;> simp_all [PathMode.code]

theorem kind?_eq_some_iff (v : Nat) (p : PatternKind) : kind? v = some p ↔ v = p.code := by
  unfold kind?
  split <;> cases p <;> simp_all [PatternKind.code]

theorem onOff?_eq_some_iff (v : Nat) (b : Bool) :
    onOff? v = some b ↔ (v = 0 ∧ b = false) ∨ (v = 1 ∧ b = true) := by
  match v with
  | 0 | 1 => cases b <;> simp [onOff?]
  | n + 2 => simp [onOff?]

theorem ite_eq_iff_eq_ite {α : Type} (p : Prop) [Decidable p] (x a b : α) :
    (if p then x = a else x = b) ↔ x = if p then a else b := by
  split <;> rfl

theorem clampCarried_eq (marked : Bool) {lo hi : Nat} (h : lo ≤ hi) (v kept : Nat) :
    clampCarried marked lo hi v kept = if marked then max lo (min hi v) else kept := by
  rw [clampCarried, clamp_eq_max_min h]

/-- R122: the controls that a body gives are those whose every field follows its mark. -/
theorem OutputControls.withBody_eq_some_iff (c new : OutputControls) (body : List Byte) :
    c.withBody body = some new ↔ Spec.outputControls body c new := by
  unfold Spec.outputControls
  simp only [ite_eq_iff_eq_ite, ← policy?_eq_some_iff, ← onOff?_eq_some_iff, ← path?_eq_some_iff,
    ← kind?_eq_some_iff]
  simp only [← carried_eq_some_iff]
  unfold OutputControls.withBody
  simp (disch := decide) only [clampCarried_eq, mark]
  cases carried ((u16At body 1).testBit 4) (policy? (byteAt body 10)) c.policy with
  | none => simp
  | some policy =>
    cases carried ((u16At body 1).testBit 5) (onOff? (byteAt body 11)) c.autoRejoin with
    | none => simp
    | some autoRejoin =>
      cases carried ((u16At body 1).testBit 6) (path? (byteAt body 12)) c.path with
      | none => simp
      | some path =>
        cases carried ((u16At body 1).testBit 7) (kind? (byteAt body 13)) c.kind with
        | none => simp
        | some kind =>
          cases new
          simp only [Option.some.injEq, OutputControls.mk.injEq, Nat.zero_max]
          constructor
          · rintro ⟨hconfirm, hsettle, hrise, hfall, hpolicy, hrejoin, hpath, hkind, hlevel⟩
            exact ⟨hconfirm.symm, hsettle.symm, hrise.symm, hfall.symm, hpolicy, hrejoin, hpath, hkind,
              hlevel.symm⟩
          · rintro ⟨hconfirm, hsettle, hrise, hfall, hpolicy, hrejoin, hpath, hkind, hlevel⟩
            exact ⟨hconfirm.symm, hsettle.symm, hrise.symm, hfall.symm, hpolicy, hrejoin, hpath, hkind,
              hlevel.symm⟩

/-- R122: CLAMPED exactly when a carried number is out of its range. -/
theorem outputClamped_iff (body : List Byte) :
    outputClamped body = true ↔
      ((u16At body 1).testBit 0 = true ∧ (byteAt body 3 < 1 ∨ 15 < byteAt body 3)) ∨
      ((u16At body 1).testBit 1 = true ∧ (u16At body 4 < 1 ∨ 255 < u16At body 4)) ∨
      ((u16At body 1).testBit 2 = true ∧ (u16At body 6 < 1 ∨ 4096 < u16At body 6)) ∨
      ((u16At body 1).testBit 3 = true ∧ (u16At body 8 < 1 ∨ 4096 < u16At body 8)) ∨
      ((u16At body 1).testBit 8 = true ∧ 4095 < u16At body 14) := by
  simp only [outputClamped, Bool.or_eq_true, Bool.and_eq_true, clamps_iff, mark, or_assoc, Nat.not_lt_zero,
    false_or]

/-! ### The reply of SET_OUTPUT_CONTROL (R177) -/

theorem prior_mod (marked : Bool) (v m : Nat) : prior marked v % m = if marked then v % m else 0 := by
  cases marked
  · exact Nat.zero_mod m
  · rfl

@[simp] theorem Policy.code_mod (p : Policy) : p.code % 256 = p.code := by cases p <;> rfl

@[simp] theorem PathMode.code_mod (p : PathMode) : p.code % 256 = p.code := by cases p <;> rfl

@[simp] theorem PatternKind.code_mod (k : PatternKind) : k.code % 256 = k.code := by cases k <;> rfl

@[simp] theorem boolCode_mod (b : Bool) : boolCode b % 256 = boolCode b := by cases b <;> rfl

/-- R177: the fields of the reply, one after the other. -/
theorem OutputControls.previous_eq (c : OutputControls) (k marks : Nat) :
    c.previous k marks = b8 k ++ (b16 marks ++ (b8 (prior (mark marks 0) c.lossConfirm) ++
      (b16 (prior (mark marks 1) c.settle) ++ (b16 (prior (mark marks 2) c.rise) ++
      (b16 (prior (mark marks 3) c.fall) ++ (b8 (prior (mark marks 4) c.policy.code) ++
      (b8 (prior (mark marks 5) (boolCode c.autoRejoin)) ++ (b8 (prior (mark marks 6) c.path.code) ++
      (b8 (prior (mark marks 7) c.kind.code) ++ b16 (prior (mark marks 8) c.level)))))))))) := by
  simp only [OutputControls.previous, List.append_assoc]

theorem OutputControls.previous_length (c : OutputControls) (k marks : Nat) :
    (c.previous k marks).length = 16 := by
  simp [OutputControls.previous_eq, b8, b16]

/-- R177: each control is read back at its place. -/
theorem OutputControls.previous_controls (c : OutputControls) (k marks : Nat) :
    Spec.PreviousControls marks c (c.previous k marks) := by
  have hrejoin : (if marks.testBit 5 = true ∧ c.autoRejoin = true then 1 else 0) =
      if marks.testBit 5 = true then boolCode c.autoRejoin else 0 := by
    cases marks.testBit 5 <;> cases c.autoRejoin <;> rfl
  rw [Spec.PreviousControls, hrejoin]
  simp [OutputControls.previous_eq, prior_mod, mark]

/-! ### SET_OUTPUT_CONTROL (R122) -/

theorem exec_setOutputControl_of_free {s : State} (tag : Byte) {body : List Byte} (hfree : s.Free)
    (hstarted : s.mode.mode ≠ .startup) (hlength : body.length = 16) :
    exec (.setOutputControl tag body) s =
      .next (actSetOutputControl body (s.handlingOf ⟨0x23, tag, body⟩)) :=
  congrArg Host.Outcome.next
    (State.submit_started _ (actSetOutputControl body) hfree hstarted (decide_eq_true hlength))

/-- Settles O32: outside STARTUP the rule takes the output, then the controls the body gives over the present
ones, and writes them alone. -/
theorem setOutputControlWritesControlsOnly : Obligations.SetOutputControlWritesControlsOnly := by
  intro s tag body hfree hstarted hlength
  rw [exec_setOutputControl_of_free tag hfree hstarted hlength]
  refine ⟨fun hout => ?_, fun k hk => ⟨fun hnone => ?_, fun new hnew => ?_⟩⟩
  · rw [actSetOutputControl, output?_eq_none hout]
    rfl
  · have hrefused : ((s.handlingOf ⟨0x23, tag, body⟩).chan k).controls.withBody body = none :=
      Option.eq_none_iff_forall_ne_some.2 fun new h =>
        hnone ⟨new, (OutputControls.withBody_eq_some_iff _ _ _).1 h⟩
    rw [actSetOutputControl, hk, output?_val]
    simp only [hrefused]
    rfl
  · have htaken : ((s.handlingOf ⟨0x23, tag, body⟩).chan k).controls.withBody body = some new :=
      (OutputControls.withBody_eq_some_iff _ _ _).2 hnew
    refine ⟨okOr (outputClamped body), (s.chans.get k).controls.previous k.val (u16At body 1), ?_,
      okOr_eq_ok_or_clamped _, (okOr_eq_clamped_iff _).trans (outputClamped_iff body),
      OutputControls.previous_length _ _ _, ?_, ?_, OutputControls.previous_controls _ _ _⟩
    · rw [actSetOutputControl, hk, output?_val]
      simp only [htaken]
      rfl
    · rw [OutputControls.previous_eq, byteAt_b8_append_zero]
      omega
    · have hmarks : u16At body 1 ≤ 65535 := u16At_le body 1
      rw [OutputControls.previous_eq, u16At_b8_append_succ, u16At_b16_append_zero]
      omega

/-! ### READ_MESH (R48) -/

theorem bankSel?_of_bad {v : Nat} (h : 1 < v) : bankSel? v = none := by
  rw [bankSel?, if_neg (by omega), if_neg (by omega)]

theorem bankSel?_sel (pending : Bool) : bankSel? (if pending then 1 else 0) = some pending := by
  cases pending <;> rfl

theorem actReadMesh_refused (s : State) (f : Frame) (body : List Byte)
    (h : 1 < byteAt body 0 ∨ 3 < byteAt body 1 ∨ byteAt body 4 < 1 ∨ 64 < byteAt body 4 ∨
      1200 < u16At body 2 + byteAt body 4) :
    actReadMesh body (s.handlingOf f) = s.replied f .badArgument [] := by
  unfold actReadMesh
  rcases h with h | h | h
  · rw [bankSel?_of_bad h]
    rfl
  · rw [output?_eq_none h]
    cases bankSel? (byteAt body 0) <;> rfl
  · rw [batchFits_of_bad (size := Config.meshRecords) h]
    cases bankSel? (byteAt body 0) <;> cases output? (byteAt body 1) <;> rfl

/-- Settles O38: outside STARTUP the rule reads the selected bank, or refuses. -/
theorem readMeshReturnsTheRecords : Obligations.ReadMeshReturnsTheRecords := by
  intro s tag body hfree hlength
  have hpassed : exec (.readMesh tag body) s = .next (s.unlessStarting ⟨0x33, tag, body⟩
      (actReadMesh body (s.handlingOf ⟨0x33, tag, body⟩))) :=
    congrArg Host.Outcome.next
      (State.submit_request s _ _ (actReadMesh body) hfree (decide_eq_true hlength))
  rw [hpassed]
  refine ⟨fun hbad => by rw [actReadMesh_refused s _ body hbad],
    fun pending k hsel hk hlow hhigh hfits => ?_⟩
  have hbatch : batchFits (u16At body 2) (byteAt body 4) Config.meshRecords = true :=
    (batchFits_iff _ _ _).2 ⟨hlow, hhigh, hfits⟩
  rw [actReadMesh, hsel, hk, bankSel?_sel, output?_val]
  simp only [hbatch, if_true]
  rfl

/-! ### What a read finds while the pending bank is overwritten (R48, R135, R151) -/

theorem mix_either {α : Type} (pick : Nat → Bool) (i : Nat) (old new : α) :
    Spec.Either (mix pick i old new) old new := mix_cases pick i old new

theorem mixList_either {α : Type} (pick : Nat → Bool) (i : Nat) (old new : List α) (j : Nat) :
    Spec.Either ((mixList pick i old new)[j]?) (old[j]?) (new[j]?) := by
  induction old generalizing i new j with
  | nil => cases new <;> exact .inl rfl
  | cons o os ih =>
    cases new with
    | nil => exact .inl rfl
    | cons n ns =>
      cases j with
      | zero =>
        rcases mix_cases pick i o n with h | h
        · exact .inl (congrArg some h)
        · exact .inr (congrArg some h)
      | succ j => exact ih (i + 1) ns j

theorem either_same {α : Type} (x new : α) : Spec.Either x x new := .inl rfl

/-- R48: the output's part of a mixture is a mixture from some field number on. -/
theorem mixScene_outs (pick : Nat → Bool) (o n : Scene) (k : Output) :
    ∃ i, (mixScene pick o n).outs.get k = mixOutput pick i (o.outs.get k) (n.outs.get k) := by
  match k with
  | 0 => exact ⟨1000, rfl⟩
  | 1 => exact ⟨3000, rfl⟩
  | 2 => exact ⟨5000, rfl⟩
  | 3 => exact ⟨7000, rfl⟩

theorem mixFlags_either (pick : Nat → Bool) (o n : Four (List Bool)) (k : Output) (j : Nat) :
    Spec.Either (((mixFlags pick o n).get k)[j]?) ((o.get k)[j]?) ((n.get k)[j]?) := by
  match k with
  | 0 | 1 | 2 | 3 => exact mixList_either pick _ _ _ j

/-- R48, R135: in SYNCING and LOADING a read of PENDING finds a mixture of the old scene and the new one. -/
theorem State.readBank_mixed {s : State} {new : Scene} {flags : Four (List Bool)}
    (h : s.banks.pendState = .syncing ∧ new = s.active.scene ∧ flags = s.active.flags ∨
      s.banks.pendState = .loading ∧ flags = s.pendingBank.flags ∧ ∃ n arm p,
        s.profiles.ctl = .loading n arm ∧ (s.profiles.area n).profile? = some p ∧ new = p.scene) :
    (s.readBank true).scene = mixScene (Config.copyReached s.free) s.pendingBank.scene new ∧
    ∀ (k : Output) (j : Nat), Spec.Either (((s.readBank true).flags.get k)[j]?)
      ((s.pendingBank.flags.get k)[j]?) ((flags.get k)[j]?) := by
  rcases h with ⟨hsyncing, rfl, rfl⟩ | ⟨hloading, rfl, n, arm, p, hctl, harea, rfl⟩
  · have hview : s.readBank true =
        ⟨mixScene (Config.copyReached s.free) s.pendingBank.scene s.active.scene,
          mixFlags (Config.copyReached s.free) s.pendingBank.flags s.active.flags⟩ := by
      simp only [State.readBank, if_true, State.pendingView, hsyncing]
    rw [hview]
    exact ⟨rfl, mixFlags_either _ _ _⟩
  · have hview : s.readBank true =
        ⟨mixScene (Config.copyReached s.free) s.pendingBank.scene p.scene, s.pendingBank.flags⟩ := by
      simp only [State.readBank, if_true, State.pendingView, hloading, hctl, harea]
    rw [hview]
    exact ⟨rfl, fun _ _ => either_same _ _⟩

/-- Settles O39: a read of ACTIVE, or of a PENDING that no copy overwrites, finds the bank itself; otherwise it
finds a mixture, and every field of a mixture is one of the two. -/
theorem readsFindOldOrNewValues : Obligations.ReadsFindOldOrNewValues := by
  intro s
  refine ⟨rfl, fun hstill => ?_, fun new flags hmixed => ?_⟩
  · rcases hstill with h | h <;> simp only [State.readBank, if_true, State.pendingView, h]
  · obtain ⟨hscene, hflags⟩ := State.readBank_mixed hmixed
    refine ⟨_, rfl, ?_⟩
    rw [hscene]
    refine ⟨mix_either _ _ _ _, mix_either _ _ _ _, mix_either _ _ _ _, mix_either _ _ _ _, mix_either _ _ _ _,
      mixList_either _ _ _ _, fun k x o n hx ho hn => ?_⟩
    obtain ⟨i, hout⟩ := mixScene_outs (Config.copyReached s.free) s.pendingBank.scene new k
    rw [hx, hout, ← ho, ← hn]
    exact ⟨mix_either _ _ _ _, mixList_either _ _ _ _, mix_either _ _ _ _, mix_either _ _ _ _,
      mix_either _ _ _ _, mix_either _ _ _ _, mix_either _ _ _ _, mix_either _ _ _ _, mix_either _ _ _ _,
      mix_either _ _ _ _, mix_either _ _ _ _, mix_either _ _ _ _, mix_either _ _ _ _, mix_either _ _ _ _,
      mix_either _ _ _ _, mix_either _ _ _ _, mixList_either _ _ _ _, hflags k⟩

/-! ### READ_BANK_INFO (R135) -/

theorem State.bankItem_refused (s : State) (body : List Byte) (st : BankStore)
    (h : 3 < byteAt body 1 ∨ ((byteAt body 1 = 1 ∨ byteAt body 1 = 2) ∧ 3 < byteAt body 2) ∨
      (byteAt body 1 = 3 ∧ (4 < byteAt body 2 ∨ byteAt body 5 < 1 ∨ 64 < byteAt body 5 ∨
        257 < u16At body 3 + byteAt body 5))) : s.bankItem body st = none := by
  unfold State.bankItem
  rcases h with h | ⟨h | h, hout⟩ | ⟨h, htable | hbatch⟩
  · split
    · omega
    · omega
    · omega
    · omega
    · rfl
  · rw [h, output?_eq_none hout]
    rfl
  · rw [h, output?_eq_none hout]
    rfl
  · rw [h, table?_of_bad htable]
    cases batchFits (u16At body 3) (byteAt body 5) Config.tableEntries <;> rfl
  · rw [h, batchFits_of_bad (size := Config.tableEntries) hbatch]
    rfl

theorem State.sceneReport_eq (s : State) (st : BankStore) :
    s.sceneReport st = b16 s.banks.revision.toNat ++ b8 s.banks.pendState.code ++
      b16 st.scene.canvasW ++ b16 st.scene.canvasH ++ b16 st.scene.rasterW ++ b16 st.scene.rasterH ++
      b8 st.scene.ceiling ++ (outputs.map fun k => b8 (st.scene.outs.get k).pitch).flatten ++
      (outputs.map fun k => b16 (st.flaggedCells k)).flatten := by
  simp [State.sceneReport, Scene.pitchBytes, BankStore.flaggedBytes, outputs, Four.get]

/-- Settles O40: outside STARTUP the rule selects the bank and the item, or refuses. -/
theorem readBankInfoReturnsOneItem : Obligations.ReadBankInfoReturnsOneItem := by
  intro s tag body hfree hfits
  have hpassed : exec (.readBankInfo tag body) s = .next (s.unlessStarting ⟨0x3B, tag, body⟩
      (actReadBankInfo body (s.handlingOf ⟨0x3B, tag, body⟩))) :=
    congrArg Host.Outcome.next
      (State.submit_request s _ _ (actReadBankInfo body) hfree ((bankInfoFits_eq body).trans hfits))
  have hitem (st : BankStore) : (s.handlingOf ⟨0x3B, tag, body⟩).bankItem body st = s.bankItem body st := rfl
  rw [hpassed]
  refine ⟨fun hbad => ?_, fun pending hsel report hreport => ?_⟩
  · rcases hbad with hbad | hbad
    · rw [actReadBankInfo, bankSel?_of_bad hbad]
      rfl
    · rw [actReadBankInfo]
      simp only [hitem, s.bankItem_refused body _ hbad]
      cases bankSel? (byteAt body 0) <;> rfl
  · have hfound : s.bankItem body (s.readBank pending) = some report := by
      unfold State.bankItem
      rcases hreport with ⟨h, rfl⟩ | ⟨h, k, hk, rfl⟩ | ⟨h, k, hk, rfl⟩ | ⟨h, hlow, hhigh, hfit, table, htable, rfl⟩
      · rw [h, ← State.sceneReport_eq]
        rfl
      · rw [h, hk, output?_val]
        rfl
      · rw [h, hk, output?_val]
        rfl
      · rw [h]
        simp only [(batchFits_iff _ _ _).2 ⟨hlow, hhigh, hfit⟩, if_true]
        rcases htable with ⟨h0, rfl⟩ | ⟨k, hk, rfl⟩
        · rw [h0]
          rfl
        · rw [hk, table?_of_output]
          rfl
    have hread : (s.handlingOf ⟨0x3B, tag, body⟩).readBank pending = s.readBank pending := rfl
    rw [actReadBankInfo, hsel, bankSel?_sel]
    simp only [hread, hitem, hfound]
    rfl

end Sys2Proof.Machine
end

section
/-! PROOFS. Chapter 7, COMMIT: its four checks in their order (R137), the degrade flags it derives (R62, R63),
and the request (R136, R138). -/

namespace Sys2Proof.Machine

/-! ### The first of a kind (R137) -/

/-- The search through the outputs in order. -/
theorem outputs_find?_cases (p : Output → Bool) :
    (outputs.find? p = none ∧ ∀ k, p k = false) ∨
    ∃ k, outputs.find? p = some k ∧ p k = true ∧ ∀ j < k, p j = false := by
  cases h : outputs.find? p with
  | none =>
    refine .inl ⟨rfl, fun k => ?_⟩
    have hmem : k ∈ outputs := by
      revert k
      decide
    simpa using List.find?_eq_none.1 h k hmem
  | some k =>
    obtain ⟨hk, i, hi, hat, hbefore⟩ := List.find?_eq_some_iff_getElem.1 h
    have hnumber : ∀ m (hm : m < outputs.length), (outputs[m]'hm).val = m := by decide
    have hik : i = k.val := by rw [← hat, hnumber]
    refine .inr ⟨k, rfl, hk, fun j hj => ?_⟩
    have hj' : j.val < i := by
      rw [hik]
      exact hj
    have hself : outputs[j.val]'(hj'.trans hi) = j := Fin.ext (hnumber _ _)
    simpa [hself] using hbefore j.val hj'

theorem outputs_find?_first {p : Output → Bool} {k : Output} (hk : p k = true)
    (hfirst : ∀ j < k, p j = false) : outputs.find? p = some k := by
  rcases outputs_find?_cases p with ⟨_, hnone⟩ | ⟨i, hi, hpi, hless⟩
  · rw [hnone k] at hk
    contradiction
  · rcases lt_trichotomy i k with h | rfl | h
    · rw [hfirst i h] at hpi
      contradiction
    · exact hi
    · rw [hless k h] at hk
      contradiction

theorem outputs_find?_none {p : Output → Bool} (h : ∀ k, p k = false) : outputs.find? p = none :=
  List.find?_eq_none.2 fun k _ => by simp [h k]

/-- Entry `j` of a list is smaller than the entry before it (R84). -/
def Falls (l : List Nat) (j : Nat) : Prop := 1 ≤ j ∧ j < l.length ∧ l.getD j 0 < l.getD (j - 1) 0

theorem falls_cons_succ (a : Nat) (l : List Nat) (j : Nat) (h : 1 ≤ j) : Falls (a :: l) (j + 1) ↔ Falls l j := by
  obtain ⟨i, rfl⟩ := Nat.exists_eq_add_of_le' h
  simp [Falls]

theorem firstFall_cases (i : Nat) (l : List Nat) :
    (firstFall i l = none ∧ ∀ j, ¬ Falls l j) ∨
    ∃ j, firstFall i l = some (i + j) ∧ Falls l j ∧ ∀ j' < j, ¬ Falls l j' := by
  induction l generalizing i with
  | nil => exact .inl ⟨rfl, fun j h => absurd h.2.1 (Nat.not_lt_zero j)⟩
  | cons a l ih =>
    cases l with
    | nil => exact .inl ⟨rfl, fun j h => by simp [Falls] at h; omega⟩
    | cons b rest =>
      by_cases hfall : b < a
      · refine .inr ⟨1, by simp [firstFall, hfall], by simpa [Falls] using hfall, fun j' hj' h => ?_⟩
        exact absurd h.1 (by omega)
      · have hstep : firstFall i (a :: b :: rest) = firstFall (i + 1) (b :: rest) := by
          simp [firstFall, hfall]
        have hzero : ¬ Falls (a :: b :: rest) 0 := fun h => absurd h.1 (by decide)
        have hone : ¬ Falls (a :: b :: rest) 1 := by simpa [Falls] using hfall
        rw [hstep]
        rcases ih (i + 1) with ⟨hnone, hno⟩ | ⟨j, hsome, hj, hfirst⟩
        · refine .inl ⟨hnone, fun j h => ?_⟩
          match j, h with
          | 0, h => exact hzero h
          | 1, h => exact hone h
          | j + 2, h => exact hno (j + 1) ((falls_cons_succ a _ (j + 1) (by omega)).1 h)
        · refine .inr ⟨j + 1, by rw [hsome]; congr 1; omega, (falls_cons_succ a _ j hj.1).2 hj, fun j' hj' h => ?_⟩
          match j', h with
          | 0, h => exact hzero h
          | 1, h => exact hone h
          | j' + 2, h =>
            exact hfirst (j' + 1) (by omega) ((falls_cons_succ a _ (j' + 1) (by omega)).1 h)

theorem firstFall_first {l : List Nat} {j : Nat} (hj : Falls l j) (hfirst : ∀ i < j, ¬ Falls l i) :
    firstFall 0 l = some j := by
  rcases firstFall_cases 0 l with ⟨_, hno⟩ | ⟨i, hi, hfalls, hless⟩
  · exact absurd hj (hno j)
  · rw [Nat.zero_add] at hi
    rcases lt_trichotomy i j with h | rfl | h
    · exact absurd hfalls (hfirst i h)
    · exact hi
    · exact absurd hj (hless j h)

/-! ### The four checks (R137) -/

section Checks

variable (sc : Scene)

theorem tooManyRecords_eq_false_iff (k : Output) :
    decide (Config.meshRecords < sc.recordsUsed k) = false ↔ Spec.layoutRecords sc k ≤ 1200 := by
  rw [decide_eq_false_iff_not, Nat.not_lt]
  rfl

theorem tooManyRecords_iff (k : Output) :
    decide (Config.meshRecords < sc.recordsUsed k) = true ↔ 1200 < Spec.layoutRecords sc k := by
  rw [decide_eq_true_iff]
  rfl

theorem outOfBounds_iff (k : Output) :
    (sc.outs.get k).coverage.outOfBounds sc.canvasW sc.canvasH = true ↔ Spec.outOfBounds sc k := by
  simp only [Coverage.outOfBounds, Spec.outOfBounds, Bool.or_eq_true, decide_eq_true_eq, or_assoc]

theorem featherTooWide_iff (k : Output) :
    (sc.outs.get k).coverage.featherTooWide = true ↔ Spec.feathersTooWide sc k := by
  simp only [Coverage.featherTooWide, Spec.feathersTooWide, Bool.or_eq_true, decide_eq_true_eq]

theorem outOfBounds_eq_false_iff (k : Output) :
    (sc.outs.get k).coverage.outOfBounds sc.canvasW sc.canvasH = false ↔ ¬ Spec.outOfBounds sc k := by
  rw [← outOfBounds_iff, Bool.not_eq_true]

theorem featherTooWide_eq_false_iff (k : Output) :
    (sc.outs.get k).coverage.featherTooWide = false ↔ ¬ Spec.feathersTooWide sc k := by
  rw [← featherTooWide_iff, Bool.not_eq_true]

/-- A scene passes, or has a first failure that the checks find. -/
theorem commitFault_cases :
    (sc.commitFault = none ∧ Spec.Passes sc) ∨
    ∃ f, sc.commitFault = some f ∧ Spec.Fails sc f.bytes := by
  unfold Scene.commitFault
  rcases outputs_find?_cases fun k => decide (Config.meshRecords < sc.recordsUsed k) with
    ⟨hmesh, hrecords⟩ | ⟨k, hmesh, hk, hfirst⟩
  rotate_left
  · rw [hmesh]
    exact .inr ⟨_, rfl, .mesh k ((tooManyRecords_iff sc k).1 hk)
      fun j hj => (tooManyRecords_eq_false_iff sc j).1 (hfirst j hj)⟩
  simp only [tooManyRecords_eq_false_iff] at hrecords
  rw [hmesh]
  rcases outputs_find?_cases fun k => (sc.outs.get k).coverage.outOfBounds sc.canvasW sc.canvasH with
    ⟨hbounds, hinside⟩ | ⟨k, hbounds, hk, hfirst⟩
  rotate_left
  · rw [hbounds]
    exact .inr ⟨_, rfl, .bounds k hrecords ((outOfBounds_iff sc k).1 hk)
      fun j hj => (outOfBounds_eq_false_iff sc j).1 (hfirst j hj)⟩
  simp only [outOfBounds_eq_false_iff] at hinside
  rw [hbounds]
  rcases outputs_find?_cases fun k => (sc.outs.get k).coverage.featherTooWide with
    ⟨hfeather, hnarrow⟩ | ⟨k, hfeather, hk, hfirst⟩
  rotate_left
  · rw [hfeather]
    exact .inr ⟨_, rfl, .feathers k hrecords hinside ((featherTooWide_iff sc k).1 hk)
      fun j hj => (featherTooWide_eq_false_iff sc j).1 (hfirst j hj)⟩
  simp only [featherTooWide_eq_false_iff] at hnarrow
  rw [hfeather]
  rcases firstFall_cases 0 sc.decode with ⟨hrising, hno⟩ | ⟨i, hfall, hi, hfirst⟩
  · rw [hrising]
    exact .inl ⟨rfl, fun k => ⟨hrecords k, hinside k, hnarrow k, hno⟩⟩
  · rw [hfall, Nat.zero_add]
    exact .inr ⟨_, rfl, .order i hrecords hinside hnarrow hi hfirst⟩

/-- The checks find the first failure and no other. -/
theorem commitFault_of_fails {report : List Byte} (h : Spec.Fails sc report) :
    ∃ f, sc.commitFault = some f ∧ f.bytes = report := by
  unfold Scene.commitFault
  cases h with
  | mesh k hk hfirst =>
    rw [outputs_find?_first ((tooManyRecords_iff sc k).2 hk)
      fun j hj => (tooManyRecords_eq_false_iff sc j).2 (hfirst j hj)]
    exact ⟨_, rfl, rfl⟩
  | bounds k hrecords hk hfirst =>
    rw [outputs_find?_none fun j => (tooManyRecords_eq_false_iff sc j).2 (hrecords j),
      outputs_find?_first ((outOfBounds_iff sc k).2 hk)
        fun j hj => (outOfBounds_eq_false_iff sc j).2 (hfirst j hj)]
    exact ⟨_, rfl, rfl⟩
  | feathers k hrecords hinside hk hfirst =>
    rw [outputs_find?_none fun j => (tooManyRecords_eq_false_iff sc j).2 (hrecords j),
      outputs_find?_none fun j => (outOfBounds_eq_false_iff sc j).2 (hinside j),
      outputs_find?_first ((featherTooWide_iff sc k).2 hk)
        fun j hj => (featherTooWide_eq_false_iff sc j).2 (hfirst j hj)]
    exact ⟨_, rfl, rfl⟩
  | order i hrecords hinside hnarrow hi hfirst =>
    rw [outputs_find?_none fun j => (tooManyRecords_eq_false_iff sc j).2 (hrecords j),
      outputs_find?_none fun j => (outOfBounds_eq_false_iff sc j).2 (hinside j),
      outputs_find?_none fun j => (featherTooWide_eq_false_iff sc j).2 (hnarrow j), firstFall_first hi hfirst]
    exact ⟨_, rfl, rfl⟩

theorem commitFault_of_passes (h : Spec.Passes sc) : sc.commitFault = none := by
  rcases commitFault_cases sc with ⟨hnone, _⟩ | ⟨f, _, hfails⟩
  · exact hnone
  · generalize f.bytes = report at hfails
    cases hfails with
    | mesh k hk _ => exact absurd (h k).1 (Nat.not_le.2 hk)
    | bounds k _ hk _ => exact absurd hk (h k).2.1
    | feathers k _ _ hk _ => exact absurd hk (h k).2.2.1
    | order i _ _ _ hi _ => exact absurd hi ((h 0).2.2.2 i)

theorem valid_iff_passes : Spec.Passes sc ↔ sc.valid = true := by
  refine ⟨fun h => by rw [Scene.valid, commitFault_of_passes sc h]; rfl, fun h => ?_⟩
  rcases commitFault_cases sc with ⟨_, hpasses⟩ | ⟨f, hsome, _⟩
  · exact hpasses
  · rw [Scene.valid, hsome] at h
    contradiction

end Checks

/-! ### COMMIT (R136, R138) -/

theorem BankStore.flaggedBytes_eq (st : BankStore) :
    st.flaggedBytes = (outputs.map fun k => b16 (st.flaggedCells k)).flatten := by
  simp [BankStore.flaggedBytes, outputs]

/-- Settles O41: the link and the pending state admit COMMIT to its rule, which the first failure decides. -/
theorem commitChecksAndArms : Obligations.CommitChecksAndArms := by
  intro s tag hfree
  have hpassed : exec (.commit tag []) s = .next (Spec.editOutcome ⟨0x38, tag, []⟩
      (actCommit (s.handlingOf ⟨0x38, tag, []⟩)) s) :=
    congrArg Host.Outcome.next (State.submit_edit s _ _ actCommit hfree rfl)
  have hbank : (s.handlingOf ⟨0x38, tag, []⟩).pendingBank = s.pendingBank := rfl
  rw [hpassed]
  refine ⟨fun hpasses => ?_, fun report hfails => ?_, ?_, valid_iff_passes _⟩
  · rw [actCommit, hbank, commitFault_of_passes _ hpasses, ← BankStore.flaggedBytes_eq]
    rfl
  · obtain ⟨f, hf, rfl⟩ := commitFault_of_fails _ hfails
    rw [actCommit, hbank, hf]
    rfl
  · rcases commitFault_cases s.pendingBank.scene with ⟨_, hpasses⟩ | ⟨f, _, hfails⟩
    · exact .inl hpasses
    · exact .inr ⟨_, hfails⟩

/-! ### The derived flags (R62, R43) -/

theorem edgeLong_iff (limit : Nat) (p q : Point) :
    edgeLong limit p q = true ↔ (limit : Int) < |p.sx - q.sx| ∨ (limit : Int) < |p.sy - q.sy| := by
  simp only [edgeLong, Bool.or_eq_true, decide_eq_true_eq, Int.abs_eq_natAbs, Nat.cast_lt]

/-- The flag of cell (i, j) of the layout, by the cell's number (R43). -/
theorem derived_flagOf (sc : Scene) (k : Output) {i j : Nat} (hi : i + 1 < sc.cols k) (hj : j + 1 < sc.rows k)
    (hn : j * (sc.cols k - 1) + i < 1200) :
    sc.derived.flagOf k (j * (sc.cols k - 1) + i) = sc.cellDegrades k i j := by
  have hflags : sc.derived.flags.get k = sc.deriveFlags k := by
    match k with
    | 0 | 1 | 2 | 3 => simp only [Scene.derived, Four.get]
  have hwidth : i < sc.cols k - 1 := by omega
  have hcol : (j * (sc.cols k - 1) + i) % (sc.cols k - 1) = i := by
    rw [Nat.mul_comm, Nat.mul_add_mod, Nat.mod_eq_of_lt hwidth]
  have hrow : (j * (sc.cols k - 1) + i) / (sc.cols k - 1) = j := by
    rw [Nat.mul_comm, Nat.mul_add_div (by omega), Nat.div_eq_of_lt hwidth, Nat.add_zero]
  have hcell : j * (sc.cols k - 1) + i < sc.cells k := by
    rw [Scene.cells, Nat.mul_comm (sc.cols k - 1)]
    calc j * (sc.cols k - 1) + i < j * (sc.cols k - 1) + (sc.cols k - 1) := by omega
      _ = (j + 1) * (sc.cols k - 1) := (Nat.succ_mul j _).symm
      _ ≤ (sc.rows k - 1) * (sc.cols k - 1) := Nat.mul_le_mul_right _ (by omega)
  rw [BankStore.flagOf, hflags, Scene.deriveFlags, List.getD_eq_getElem?_getD,
    getElem?_map_range (show _ < Config.meshRecords from hn), hcol, hrow]
  simp [hcell]

/-- Settles O42: the flag of a cell is that of its four edges. -/
theorem derivedFlagsMarkLongEdges : Obligations.DerivedFlagsMarkLongEdges := by
  intro sc k i j hi hj hn
  rw [derived_flagOf sc k hi hj hn]
  simp only [Scene.cellDegrades, Bool.or_eq_true, edgeLong_iff, Nat.cast_mul, Nat.cast_ofNat]
  constructor
  · rintro (((h | h) | h) | h)
    · exact ⟨0, 0, 1, 0, by simp, h⟩
    · exact ⟨0, 1, 1, 1, by simp, h⟩
    · exact ⟨0, 0, 0, 1, by simp, h⟩
    · exact ⟨1, 0, 1, 1, by simp, h⟩
  · rintro ⟨a, b, c, d, hmem, h⟩
    simp only [List.mem_cons, Prod.mk.injEq, List.not_mem_nil, or_false] at hmem
    rcases hmem with ⟨rfl, rfl, rfl, rfl⟩ | ⟨rfl, rfl, rfl, rfl⟩ | ⟨rfl, rfl, rfl, rfl⟩ | ⟨rfl, rfl, rfl, rfl⟩
    · exact .inl (.inl (.inl h))
    · exact .inl (.inl (.inr h))
    · exact .inl (.inr h)
    · exact .inr h

end Sys2Proof.Machine
end

section
/-! PROOFS. Chapter 8, the profile requests (R155 to R158, R160, R161) and PROFILE_LIST (R156). -/

namespace Sys2Proof.Machine

/-! ### The admission of a profile request (R155, R164) -/

/-- R155: the admission by controller state replies to the request being handled. -/
theorem admitProfile_handlingOf (act : State → State) (s : State) (f : Frame) :
    admitProfile act (s.handlingOf f) = s.whenIdle f (act (s.handlingOf f)) := by
  have hsame : (s.handlingOf f).profiles.ctl = s.profiles.ctl := rfl
  rw [admitProfile, State.whenIdle, hsame]
  cases s.profiles.ctl <;> rfl

/-- The link passes a profile request of a fitting length to its rule `act` in IDLE outside STARTUP. -/
theorem State.submit_profile (s : State) (f : Frame) (fits : Bool) (act : State → State) (hfree : s.Free)
    (hfits : fits = true) :
    s.submit f (request fits false (admitProfile act)) =
      Spec.profileOutcome f (act (s.handlingOf f)) s := by
  rw [State.submit_request s f fits _ hfree hfits, admitProfile_handlingOf, Spec.profileOutcome]

theorem profile?_eq_none {v : Nat} (h : 7 < v) : profile? v = none :=
  dif_neg (Nat.not_lt.2 h)

theorem profile?_of_val {v : Nat} {n : ProfileNo} (h : v = n.val) : profile? v = some n := by
  subst h
  exact dif_pos n.isLt

/-! ### PROFILE_LOAD (R157) and PROFILE_ERASE (R160) -/

section LoadAndErase

variable (s : State) (f : Frame) {a b : Byte}

theorem actProfileLoad_of_bad (h : 7 < a.toNat ∨ 1 < b.toNat) :
    actProfileLoad [a, b] (s.handlingOf f) = s.replied f .badArgument [] := by
  have hrefused : profile? (byteAt [a, b] 0) = none ∨ onOff? (byteAt [a, b] 1) = none := by
    refine h.imp profile?_eq_none fun hb => ?_
    exact (if_neg (Nat.ne_of_gt (Nat.lt_of_le_of_lt (Nat.zero_le 1) hb))).trans (if_neg (Nat.ne_of_gt hb))
  unfold actProfileLoad
  rcases hrefused with hnone | hnone
  · rw [hnone]
    rfl
  · rw [hnone]
    cases profile? (byteAt [a, b] 0) <;> rfl

theorem actProfileErase_of_bad (h : 7 < a.toNat) :
    actProfileErase [a] (s.handlingOf f) = s.replied f .badArgument [] := by
  rw [actProfileErase, show profile? (byteAt [a] 0) = none from profile?_eq_none h]
  rfl

variable {n : ProfileNo} (ha : a.toNat = n.val)
include ha

theorem actProfileLoad_of_profile (hb : b.toNat ≤ 1) :
    actProfileLoad [a, b] (s.handlingOf f) =
      match (s.profiles.entry n).held with
      | none => s.replied f .noProfile []
      | some (false, _) => s.replied f .unsound []
      | some (true, _) =>
        match s.banks.pendState with
        | .editable => ({ s with
            banks := { s.banks with pendState := .loading }
            profiles := { s.profiles with ctl := .loading n (decide (b.toNat = 1)) } } : State).replied f .ok []
        | .armed => s.replied f .armed []
        | _ => s.replied f .busy [] := by
  have hn : profile? (byteAt [a, b] 0) = some n := profile?_of_val ha
  have harm : onOff? (byteAt [a, b] 1) = some (decide (b.toNat = 1)) := by
    show onOff? b.toNat = _
    match b.toNat, hb with
    | 0, _ => rfl
    | 1, _ => rfl
  have hsound : ((s.handlingOf f).profiles.entry n).sound? = (s.profiles.entry n).held.map Prod.fst := rfl
  have hpend : (s.handlingOf f).banks.pendState = s.banks.pendState := rfl
  unfold actProfileLoad
  rw [hn, harm]
  dsimp only
  rw [hsound]
  match (s.profiles.entry n).held with
  | none => rfl
  | some (false, _) => rfl
  | some (true, _) =>
    dsimp only [Option.map_some]
    rw [loadInto, hpend]
    cases s.banks.pendState <;> rfl

theorem actProfileErase_of_profile :
    actProfileErase [a] (s.handlingOf f) =
      match (s.profiles.entry n).held with
      | none => s.replied f .noProfile []
      | some _ => ({ s with profiles := { s.profiles with
          ctl := .erasing n (s.profiles.area n).blankingOf false
          flash := { s.profiles.flash with
            areas := s.profiles.flash.areas.set n.val (s.profiles.area n).blankingOf } } } : State).replied
              f .ok [] := by
  have hn : profile? (byteAt [a] 0) = some n := profile?_of_val ha
  have hheld : ((s.handlingOf f).profiles.entry n).held = (s.profiles.entry n).held := rfl
  unfold actProfileErase
  rw [hn]
  dsimp only
  rw [hheld]
  match (s.profiles.entry n).held with
  | none => rfl
  | some _ => rfl

end LoadAndErase

/-- Settles O45: the link, the mode and the controller state admit each request to its rule, which checks the
arguments, the entry and, for a load, the pending bank. -/
theorem profileLoadAndEraseAreCheckedInOrder : Obligations.ProfileLoadAndEraseAreCheckedInOrder := by
  intro s tag a b hfree
  have hload : exec (.profileLoad tag [a, b]) s = .next (Spec.profileOutcome ⟨0x50, tag, [a, b]⟩
      (actProfileLoad [a, b] (s.handlingOf ⟨0x50, tag, [a, b]⟩)) s) :=
    congrArg Host.Outcome.next (State.submit_profile s _ _ (actProfileLoad [a, b]) hfree rfl)
  have herase : exec (.profileErase tag [a]) s = .next (Spec.profileOutcome ⟨0x52, tag, [a]⟩
      (actProfileErase [a] (s.handlingOf ⟨0x52, tag, [a]⟩)) s) :=
    congrArg Host.Outcome.next (State.submit_profile s _ _ (actProfileErase [a]) hfree rfl)
  rw [hload, herase]
  refine ⟨fun h => ?_, fun h => ?_, fun n ha => ⟨fun hb => ?_, ?_⟩⟩
  · rw [actProfileLoad_of_bad s _ h]
  · rw [actProfileErase_of_bad s _ h]
  · exact congrArg (fun taken => Host.Outcome.next (Spec.profileOutcome _ taken s))
      (actProfileLoad_of_profile s _ ha hb)
  · exact congrArg (fun taken => Host.Outcome.next (Spec.profileOutcome _ taken s))
      (actProfileErase_of_profile s _ ha)

/-! ### PROFILE_STORE (R158) -/

theorem labelGood_iff (label : List Byte) :
    labelGood label = true ↔ label.length ≤ 16 ∧ ∀ c ∈ label, 0x20 ≤ c.toNat ∧ c.toNat ≤ 0x7E := by
  simp [labelGood]

theorem ModeState.inSetup_iff (m : ModeState) :
    m.inSetup = true ↔
      m.mode = .setup ∨ (m.mode = .dimming ∨ m.mode = .standby) ∧ m.remembered = .setup := by
  obtain ⟨mode, remembered⟩ := m
  cases mode <;> simp [ModeState.inSetup]

theorem Channel.storedEnable_eq (c : Channel) :
    c.storedEnable = decide (c.state = .acquiring ∨ c.state = .active ∨ c.state = .lost ∨ c.state = .parked) := by
  unfold Channel.storedEnable
  cases c.state <;> rfl

/-- R158: the contents captured, with the revision that the check for staleness has found equal. -/
theorem State.captureProfile_eq (s : State) (label : List Byte) :
    s.captureProfile s.banks.revision label = Spec.captured label s := by
  have hstored : Channel.stored = fun c => ⟨c.controls, decide (c.state = .acquiring ∨ c.state = .active ∨
      c.state = .lost ∨ c.state = .parked)⟩ :=
    funext fun c => by rw [Channel.stored, Channel.storedEnable_eq]
  rw [State.captureProfile, Spec.captured, hstored]

/-- R158: the revision that a body carries is the active one exactly when the numbers agree. -/
theorem ofNat_u16_ne_iff (lo hi : Byte) (w : BitVec 16) :
    BitVec.ofNat 16 (lo.toNat + 256 * hi.toNat) ≠ w ↔ lo.toNat + 256 * hi.toNat ≠ w.toNat := by
  have hlo := lo.isLt
  have hhi := hi.isLt
  rw [not_iff_not, ← BitVec.toNat_inj, BitVec.toNat_ofNat, Nat.mod_eq_of_lt (by omega)]

section Store

variable (s : State) (f : Frame) {a lo hi len : Byte} {label : List Byte}

theorem actProfileStore_of_bad
    (h : 7 < a.toNat ∨ 16 < label.length ∨ ∃ c ∈ label, c.toNat < 0x20 ∨ 0x7E < c.toNat) :
    actProfileStore (a :: lo :: hi :: len :: label) (s.handlingOf f) = s.replied f .badArgument [] := by
  have hdrop : (a :: lo :: hi :: len :: label).drop 4 = label := rfl
  unfold actProfileStore
  rcases h with ha | hlabel
  · rw [show profile? (byteAt (a :: lo :: hi :: len :: label) 0) = none from profile?_eq_none ha]
    rfl
  · have hbad : labelGood label = false := by
      rw [← Bool.not_eq_true, labelGood_iff]
      rintro ⟨hshort, hgood⟩
      rcases hlabel with hlong | ⟨c, hc, hout⟩
      · omega
      · have := hgood c hc
        omega
    cases profile? (byteAt (a :: lo :: hi :: len :: label) 0) with
    | none => rfl
    | some n =>
      simp only [hdrop, hbad]
      rfl

theorem actProfileStore_of_profile {n : ProfileNo} (ha : a.toNat = n.val) (hshort : label.length ≤ 16)
    (hgood : ∀ c ∈ label, 0x20 ≤ c.toNat ∧ c.toNat ≤ 0x7E) :
    actProfileStore (a :: lo :: hi :: len :: label) (s.handlingOf f) =
      if s.mode.mode = .setup ∨
          (s.mode.mode = .dimming ∨ s.mode.mode = .standby) ∧ s.mode.remembered = .setup then
        s.replied f .wrongState []
      else if lo.toNat + 256 * hi.toNat ≠ s.banks.revision.toNat then s.replied f .stale []
      else
        ({ s with profiles := { s.profiles with
            ctl := .storing n (Spec.captured label s) false
            flash := { s.profiles.flash with
              areas := s.profiles.flash.areas.set n.val (.torn (Spec.captured label s)) } } } : State).replied
          f .ok [] := by
  have hn : profile? (byteAt (a :: lo :: hi :: len :: label) 0) = some n := profile?_of_val ha
  have hdrop : (a :: lo :: hi :: len :: label).drop 4 = label := rfl
  have hrevision : u16At (a :: lo :: hi :: len :: label) 1 = lo.toNat + 256 * hi.toNat := rfl
  have hmode : (s.handlingOf f).mode = s.mode := rfl
  have hbanks : (s.handlingOf f).banks = s.banks := rfl
  have hlabel : labelGood label = true := (labelGood_iff label).2 ⟨hshort, hgood⟩
  unfold actProfileStore
  simp only [hn, hdrop, hrevision, hlabel, hmode, hbanks, ofNat_u16_ne_iff, ModeState.inSetup_iff,
    Bool.not_true, Bool.false_eq_true, if_false]
  refine ite_congr rfl (fun _ => rfl) fun _ => ?_
  by_cases hstale : lo.toNat + 256 * hi.toNat ≠ s.banks.revision.toNat
  · simp only [hstale, if_true, ne_eq, not_false_eq_true]
    rfl
  · have hsame : BitVec.ofNat 16 (lo.toNat + 256 * hi.toNat) = s.banks.revision :=
      not_not.1 (mt (ofNat_u16_ne_iff lo hi s.banks.revision).1 hstale)
    have hcapture : (s.handlingOf f).captureProfile s.banks.revision label = Spec.captured label s :=
      State.captureProfile_eq (s.handlingOf f) label
    simp only [hstale, if_false, hsame, hcapture]
    rfl

end Store

/-- Settles O46: the link, the mode and the controller state admit the request to its rule, whose last branch
captures the active bank with the revision found equal. -/
theorem profileStoreCapturesTheScene : Obligations.ProfileStoreCapturesTheScene := by
  intro s tag a lo hi len label hfree hlen
  have hfits : profileStoreFits (a :: lo :: hi :: len :: label) = true := by
    have hcarried : byteAt (a :: lo :: hi :: len :: label) 3 = len.toNat := rfl
    simp [profileStoreFits, hcarried, ← hlen]
    omega
  have hpassed : exec (.profileStore tag (a :: lo :: hi :: len :: label)) s =
      .next (Spec.profileOutcome ⟨0x51, tag, a :: lo :: hi :: len :: label⟩
        (actProfileStore (a :: lo :: hi :: len :: label)
          (s.handlingOf ⟨0x51, tag, a :: lo :: hi :: len :: label⟩)) s) :=
    congrArg Host.Outcome.next
      (State.submit_profile s _ _ (actProfileStore (a :: lo :: hi :: len :: label)) hfree hfits)
  rw [hpassed]
  refine ⟨fun h => ?_, fun n ha hshort hgood => ?_⟩
  · rw [actProfileStore_of_bad s _ h]
  · rw [actProfileStore_of_profile s _ ha hshort hgood]

/-! ### PROFILE_SET_BOOT (R161) and the copy that a directory write begins on (R154) -/

/-- R154: a directory write begins on the older copy, or on copy 0 where neither passes. -/
theorem ProfileStore.beginDirectory_copies (p : ProfileStore) :
    (∀ (c : Bool) (d : Directory), p.newer = some (c, d) →
      (if c then p.beginDirectory.flash.copy1 else p.beginDirectory.flash.copy0) =
        (if c then p.flash.copy1 else p.flash.copy0) ∧
      (if c then p.beginDirectory.flash.copy0 else p.beginDirectory.flash.copy1) = .torn) ∧
    (p.newer = none →
      p.beginDirectory.flash.copy0 = .torn ∧ p.beginDirectory.flash.copy1 = p.flash.copy1) := by
  refine ⟨fun c d hnewer => ?_, fun hnewer => ?_⟩
  · have htarget : p.writeTarget = !c := by rw [ProfileStore.writeTarget, hnewer]
    rw [ProfileStore.beginDirectory, htarget]
    cases c <;> exact ⟨rfl, rfl⟩
  · have htarget : p.writeTarget = false := by rw [ProfileStore.writeTarget, hnewer]
    rw [ProfileStore.beginDirectory, htarget]
    exact ⟨rfl, rfl⟩

/-- A directory write begins in its copies only. -/
theorem ProfileStore.beginDirectory_rest (p : ProfileStore) :
    p.beginDirectory.entries = p.entries ∧ p.beginDirectory.boot = p.boot ∧
      p.beginDirectory.flash.areas = p.flash.areas := by
  unfold ProfileStore.beginDirectory ProfileStore.setCopy
  split <;> exact ⟨rfl, rfl, rfl⟩

section SetBoot

variable (s : State) (f : Frame) {a : Byte}

theorem actProfileSetBoot_of_bad (h : 7 < a.toNat) (hnone : a ≠ 0xFF) :
    actProfileSetBoot [a] (s.handlingOf f) = s.replied f .badArgument [] := by
  have hchoice : bootChoice? (byteAt [a] 0) = none := by
    have hfull : byteAt [a] 0 ≠ 0xFF := fun h => hnone (BitVec.eq_of_toNat_eq h)
    rw [bootChoice?, if_neg hfull, show profile? (byteAt [a] 0) = none from profile?_eq_none h]
    rfl
  rw [actProfileSetBoot, hchoice]
  rfl

theorem bootChoice?_of_profile {n : ProfileNo} (ha : a.toNat = n.val) :
    bootChoice? (byteAt [a] 0) = some (some n) := by
  have hfull : byteAt [a] 0 ≠ 0xFF := by
    have hn := n.isLt
    have hbyte : byteAt [a] 0 = n.val := ha
    omega
  rw [bootChoice?, if_neg hfull, show profile? (byteAt [a] 0) = some n from profile?_of_val ha]
  rfl

theorem actProfileSetBoot_of_empty {n : ProfileNo} (ha : a.toNat = n.val)
    (hheld : (s.profiles.entry n).held = none) :
    actProfileSetBoot [a] (s.handlingOf f) = s.replied f .noProfile [] := by
  have hsound : ((s.handlingOf f).profiles.entry n).sound? = none :=
    (congrArg (Option.map Prod.fst) hheld :)
  rw [actProfileSetBoot, bootChoice?_of_profile ha]
  dsimp only
  rw [hsound]
  rfl

theorem actProfileSetBoot_of_unsound {n : ProfileNo} {h : Header} (ha : a.toNat = n.val)
    (hheld : (s.profiles.entry n).held = some (false, h)) :
    actProfileSetBoot [a] (s.handlingOf f) = s.replied f .unsound [] := by
  have hsound : ((s.handlingOf f).profiles.entry n).sound? = some false :=
    (congrArg (Option.map Prod.fst) hheld :)
  rw [actProfileSetBoot, bootChoice?_of_profile ha]
  dsimp only
  rw [hsound]
  rfl

theorem actProfileSetBoot_of_choice {choice : Option ProfileNo}
    (h : a = 0xFF ∧ choice = none ∨ ∃ (n : ProfileNo) (h : Header), a.toNat = n.val ∧ choice = some n ∧
      (s.profiles.entry n).held = some (true, h)) :
    actProfileSetBoot [a] (s.handlingOf f) =
      ({ s with profiles := s.profiles.beginBoot choice } : State).replied f .ok [] := by
  rcases h with ⟨rfl, rfl⟩ | ⟨n, h, ha, rfl, hheld⟩
  · rfl
  · have hsound : ((s.handlingOf f).profiles.entry n).sound? = some true :=
      (congrArg (Option.map Prod.fst) hheld :)
    rw [actProfileSetBoot, bootChoice?_of_profile ha]
    dsimp only
    rw [hsound]
    rfl

end SetBoot

/-- Settles O47: the controller state and the rule's checks refuse it, or the rule begins a directory write,
which touches the older copy alone. -/
theorem profileSetBootBeginsADirectoryWrite : Obligations.ProfileSetBootBeginsADirectoryWrite := by
  intro s tag a hfree
  have hpassed : exec (.profileSetBoot tag [a]) s = .next (Spec.profileOutcome ⟨0x53, tag, [a]⟩
      (actProfileSetBoot [a] (s.handlingOf ⟨0x53, tag, [a]⟩)) s) :=
    congrArg Host.Outcome.next (State.submit_profile s _ _ (actProfileSetBoot [a]) hfree rfl)
  rw [hpassed]
  refine ⟨fun hstarted hidle hscanning => ?_, fun h hnone => ?_, fun n ha hheld => ?_,
    fun n h ha hheld => ?_, fun choice hchoice => ⟨s.profiles.beginBoot choice, ?_, rfl, ?_⟩⟩
  · rw [Spec.profileOutcome, State.unlessStarting, if_neg hstarted, State.whenIdle, if_neg hscanning,
      if_neg hidle]
  · rw [actProfileSetBoot_of_bad s _ h hnone]
  · rw [actProfileSetBoot_of_empty s _ ha hheld]
  · rw [actProfileSetBoot_of_unsound s _ ha hheld]
  · rw [actProfileSetBoot_of_choice s _ hchoice]
  · obtain ⟨hentries, hboot, hareas⟩ := s.profiles.beginDirectory_rest
    exact ⟨hentries, hboot, hareas, s.profiles.beginDirectory_copies⟩

/-! ### PROFILE_LIST (R156, R178) -/

/-- A list of blocks of one width, laid end to end, read by block and offset. -/
theorem getD_flatten {α : Type} {w : Nat} {l : List (List α)} (h : ∀ b ∈ l, b.length = w) {n i : Nat}
    (hn : n < l.length) (hi : i < w) (d : α) : l.flatten.getD (w * n + i) d = (l[n]'hn).getD i d := by
  induction l generalizing n with
  | nil => exact absurd hn (Nat.not_lt_zero n)
  | cons b l ih =>
    have hb : b.length = w := h b List.mem_cons_self
    cases n with
    | zero =>
      rw [List.flatten_cons, Nat.mul_zero, Nat.zero_add, List.getD_append _ _ _ _ (by omega)]
      rfl
    | succ n =>
      have hpast : b.length ≤ w * (n + 1) + i := by
        rw [Nat.mul_succ]
        omega
      have hrest : w * (n + 1) + i - b.length = w * n + i := by
        rw [Nat.mul_succ]
        omega
      rw [List.flatten_cons, List.getD_append_right _ _ _ _ hpast, hrest,
        ih (fun c hc => h c (List.mem_cons_of_mem b hc)) (Nat.lt_of_succ_lt_succ hn)]
      rfl

@[simp] theorem labelField_length (label : List Byte) : (labelField label).length = 16 := by
  simp [labelField, zeros]

theorem labelField_getD (label : List Byte) {i : Nat} (hi : i < 16) :
    (labelField label).getD i 0 = label.getD i 0 := by
  have htake : (labelField label).getD i 0 = (label ++ zeros 16).getD i 0 := by
    rw [labelField, List.getD_eq_getElem?_getD, List.getElem?_take_of_lt hi, ← List.getD_eq_getElem?_getD]
  rw [htake]
  by_cases hlow : i < label.length
  · rw [List.getD_append _ _ _ _ hlow]
  · rw [List.getD_append_right _ _ _ _ (by omega), List.getD_eq_default _ _ (Nat.not_lt.1 hlow)]
    rw [zeros, List.getD_eq_getElem?_getD, List.getElem?_getD_replicate_default_eq]

theorem Entry.bytes_length (e : Entry) (absent : Nat → Byte) : (e.bytes absent).length = 25 := by
  unfold Entry.bytes
  split <;> simp [b8, b16]

/-- R178: the entry of profile `n` in the report. -/
theorem State.profileReport_entry (s : State) (n : ProfileNo) {i : Nat} (hi : i < 25) :
    byteAt s.profileReport (4 + 25 * n.val + i) = byteAt (s.entryReport n) i := by
  have hblocks : ∀ b ∈ profileNos.map fun n => s.entryReport n, b.length = 25 := by
    intro b hb
    obtain ⟨m, _, rfl⟩ := List.mem_map.1 hb
    exact Entry.bytes_length _ _
  have hn : n.val < (profileNos.map fun n => s.entryReport n).length := n.isLt
  have hnumber : ∀ m : ProfileNo, profileNos[m.val]'m.isLt = m := by decide
  have hat : (profileNos.map fun n => s.entryReport n)[n.val]'hn = s.entryReport n := by
    rw [List.getElem_map]
    exact congrArg (fun m => s.entryReport m) (hnumber n)
  have hhead : 4 + 25 * n.val + i = (25 * n.val + i) + 4 := by omega
  rw [hhead, byteAt, byteAt, ← hat, ← getD_flatten hblocks hn hi 0]
  rfl

theorem State.profileReport_length (s : State) : s.profileReport.length = 204 := by
  simp [State.profileReport, profileNos, State.entryReport, Entry.bytes_length, b8, optByte]

theorem Entry.bytes_count (e : Entry) (absent : Nat → Byte) :
    byteAt (e.bytes absent) 3 = e.writeCount % 256 := by
  unfold Entry.bytes
  split <;> simp [b8, b16, byteAt]

theorem Entry.bytes_empty {e : Entry} (h : e.held = none) (absent : Nat → Byte) :
    byteAt (e.bytes absent) 0 = 0 ∧ byteAt (e.bytes absent) 8 = 0 := by
  simp [Entry.bytes, Entry.code, Entry.sound?, h, b8, byteAt]

/-- R178: the fields of a profile that is not EMPTY, one after the other. -/
theorem Entry.bytes_held {e : Entry} {sound : Bool} {h : Header} (hheld : e.held = some (sound, h))
    (absent : Nat → Byte) :
    e.bytes absent = b8 (if sound then 1 else 2) ++ (b16 h.revision.toNat ++ (b8 e.writeCount ++
      (b16 h.canvasW ++ (b16 h.canvasH ++ (b8 h.label.length ++ labelField h.label))))) := by
  have hcode : e.code = if sound then 1 else 2 := by
    rw [Entry.code, Entry.sound?, hheld]
    cases sound <;> rfl
  simp [Entry.bytes, hheld, hcode]

theorem State.profileReport_u16 (s : State) (n : ProfileNo) {i : Nat} (hi : i + 1 < 25) :
    u16At s.profileReport (4 + 25 * n.val + i) = u16At (s.entryReport n) i := by
  rw [u16At, u16At, s.profileReport_entry n (by omega), ← s.profileReport_entry n hi, Nat.add_assoc]

/-- R178: the four bytes before the entries. -/
theorem State.profileReport_head (s : State) :
    byteAt s.profileReport 0 = s.profiles.ctl.code ∧
    byteAt s.profileReport 1 = (s.profiles.ctl.profileInWork.map Fin.val).getD 0xFF ∧
    byteAt s.profileReport 2 = (s.profiles.boot.map Fin.val).getD 0xFF ∧
    byteAt s.profileReport 3 = s.profiles.examinedReport % 256 := by
  have hchoice : ∀ c : Option ProfileNo, (c.map Fin.val).getD 0xFF % 256 = (c.map Fin.val).getD 0xFF := by
    decide
  refine ⟨s.profiles.ctl.code_mod, hchoice _, hchoice _, ?_⟩
  exact BitVec.toNat_ofNat _ 8

/-- Settles O48: every mode takes PROFILE_LIST; its rule replies with the report, whose entries are blocks of
25 bytes behind a head of four. -/
theorem profileListReportsTheDirectory : Obligations.ProfileListReportsTheDirectory := by
  intro s tag hfree
  obtain ⟨hcode, hwork, hboot, hexamined⟩ := s.profileReport_head
  refine ⟨s.profileReport, ?_, s.profileReport_length, hcode, ?loading, ?storing, ?erasing, ?idle, ?boot,
    ?examined, fun n => ⟨?count, fun hempty => ?empty, fun sound h hheld => ?held⟩⟩
  · exact congrArg Host.Outcome.next (State.submit_early s _ _ actProfileList hfree rfl)
  case loading =>
    intro n arm hctl
    rw [hwork, hctl]
    rfl
  case storing =>
    intro n p d hctl
    rw [hwork, hctl]
    rfl
  case erasing =>
    intro n r d hctl
    rw [hwork, hctl]
    rfl
  case idle =>
    rintro (hctl | hctl) <;>
    · rw [hwork, hctl]
      rfl
  case boot =>
    rw [hboot]
    cases s.profiles.boot <;> rfl
  case examined =>
    rw [hexamined, ProfileStore.examinedReport]
    split <;> rfl
  case count =>
    rw [show 7 + 25 * n.val = 4 + 25 * n.val + 3 by omega, s.profileReport_entry n (by decide)]
    exact Entry.bytes_count _ _
  case empty =>
    obtain ⟨hstate, hlabel⟩ := Entry.bytes_empty hempty fun i => Config.absentByte s.free (8 * n.val + i)
    rw [show 12 + 25 * n.val = 4 + 25 * n.val + 8 by omega, s.profileReport_entry n (by decide)]
    exact ⟨(s.profileReport_entry n (i := 0) (by decide)).trans hstate, hlabel⟩
  case held =>
    have hentry : s.entryReport n = _ :=
      Entry.bytes_held hheld fun i => Config.absentByte s.free (8 * n.val + i)
    have hbyte := fun i hi => s.profileReport_entry n (i := i) hi
    have hword := fun i hi => s.profileReport_u16 n (i := i) hi
    refine ⟨(hbyte 0 (by decide)).trans ?_, ?_, ?_, ?_, ?_, fun i hi => ?_⟩
    · rw [hentry]
      cases sound <;> rfl
    · rw [show 5 + 25 * n.val = 4 + 25 * n.val + 1 by omega, hword 1 (by decide), hentry]
      simpa using h.revision.isLt
    · rw [show 8 + 25 * n.val = 4 + 25 * n.val + 4 by omega, hword 4 (by decide), hentry]
      simp
    · rw [show 10 + 25 * n.val = 4 + 25 * n.val + 6 by omega, hword 6 (by decide), hentry]
      simp
    · rw [show 12 + 25 * n.val = 4 + 25 * n.val + 8 by omega, hbyte 8 (by decide), hentry]
      simp
    · rw [show 13 + 25 * n.val + i = 4 + 25 * n.val + (9 + i) by omega, hbyte (9 + i) (by omega), hentry,
        ← labelField_getD h.label hi, Nat.add_comm 9 i]
      rfl

end Sys2Proof.Machine
end

section
/-! PROOFS. Chapter 8, the ends of the profile operations: a load (R157, R151), a store (R159), an erase (R160)
and a boot choice write (R161), and the directory write (R154, R162). -/

namespace Sys2Proof.Machine

/-! ### PROFILE_DONE and PROFILE_BAD (R155) -/

theorem State.profileDone_eq (s : State) (n : Option ProfileNo) (op : ProfileOp) (r : ProfileResult) :
    s.profileDone n op r = { s with ind := Spec.doneInd n op r false s } := by
  rw [State.profileDone, State.post_eq, Spec.doneInd, Bool.or_false]

/-- Whether PROFILE_BAD is set before the record is posted or after makes no difference. -/
theorem State.profileDone_bad (s : State) (n : Option ProfileNo) (op : ProfileOp) (r : ProfileResult) :
    (s.profileDone n op r).flagProfileBad = { s with ind := Spec.doneInd n op r true s } := by
  rw [State.profileDone, State.post_eq, Spec.doneInd, Bool.or_true]
  unfold State.flagProfileBad State.setFlags Indications.posted
  dsimp only
  split
  · rfl
  · split <;> rfl

/-- The end of a flash operation that succeeded or did not. -/
theorem State.done_eq (s : State) (ok : Bool) (n : Option ProfileNo) (op : ProfileOp) :
    (if ok = true then s.profileDone n op .ok else (s.profileDone n op .failed).flagProfileBad) =
      { s with ind := Spec.doneInd n op (if ok then .ok else .failed) (!ok) s } := by
  cases ok
  · exact s.profileDone_bad n op .failed
  · exact s.profileDone_eq n op .ok

/-! ### An entry and an area, read back -/

section ReadBack

variable {p : ProfileStore} {m n : ProfileNo}

theorem ProfileStore.entry_setEntry_same (h : p.entries.length = 8) (e : Entry) :
    (p.setEntry n e).entry n = e := by
  have hn : n.val < p.entries.length := h.symm ▸ n.isLt
  simp [ProfileStore.entry, ProfileStore.setEntry, hn]

theorem ProfileStore.entry_setEntry_ne (h : m ≠ n) (e : Entry) : (p.setEntry n e).entry m = p.entry m := by
  have hval : n.val ≠ m.val := fun hval => h (Fin.ext hval.symm)
  simp [ProfileStore.entry, ProfileStore.setEntry, List.getElem?_set_ne hval]

theorem ProfileStore.area_setArea_same (h : p.flash.areas.length = 8) (a : Area) :
    (p.setArea n a).area n = a := by
  have hn : n.val < p.flash.areas.length := h.symm ▸ n.isLt
  simp [ProfileStore.area, ProfileStore.setArea, hn]

theorem ProfileStore.area_setArea_ne (h : m ≠ n) (a : Area) : (p.setArea n a).area m = p.area m := by
  have hval : n.val ≠ m.val := fun hval => h (Fin.ext hval.symm)
  simp [ProfileStore.area, ProfileStore.setArea, List.getElem?_set_ne hval]

end ReadBack

/-! ### The end of a load (R157, R151) -/

theorem State.finishLoad_of_good {s : State} {n : ProfileNo} {p : Profile} (arm : Bool)
    (hp : (s.profiles.area n).profile? = some p) :
    s.finishLoad n arm true = { s with
      profiles := { s.profiles with ctl := .idle }
      banks := { s.banks.setPending p.scene.derived with pendState := if arm then .armed else .editable }
      ind := Spec.doneInd (some n) .load .ok false s } := by
  have hidle : ((s.onProfiles (ProfileStore.setCtl .idle)).profiles.area n).profile? = some p := hp
  unfold State.finishLoad
  simp only [hidle, State.profileDone_eq]
  rfl

/-- R157: the entry of a profile whose contents did not pass. -/
def ProfileStore.foundBad (n : ProfileNo) (p : ProfileStore) : ProfileStore :=
  p.setHeld n ((p.entry n).held.map fun h => (false, h.2))

/-- R151: the pending bank of a load that did not pass: fields that it had reached, the others as they were. -/
def State.loadMixed (n : ProfileNo) (s : State) : BankStore :=
  ⟨mixScene (Config.loadReached s.free) s.pendingBank.scene
    ((s.profiles.area n).profile?.elim s.pendingBank.scene Profile.scene), s.pendingBank.flags⟩

theorem State.finishLoad_of_bad (s : State) (n : ProfileNo) (arm : Bool) :
    s.finishLoad n arm false = { s with
      profiles := ({ s.profiles with ctl := .idle } : ProfileStore).foundBad n
      banks := { s.banks.setPending (s.loadMixed n) with pendState := .syncing }
      ind := Spec.doneInd (some n) .load .badCheck true s
      free := s.free + 1 } := by
  unfold State.finishLoad
  dsimp only
  rw [State.profileDone_bad]
  rfl

/-- Settles O49: the rule of a load's end, by the check of what was read. -/
theorem loadCompletionFillsThePendingBank : Obligations.LoadCompletionFillsThePendingBank := by
  intro s n arm p hctl hp
  have hload (good : Bool) : exec (.loadCompletion good) s = .next (s.finishLoad n arm good) := by
    show Host.Outcome.next _ = _
    rw [hctl]
  rw [hload, hload, State.finishLoad_of_good arm hp, State.finishLoad_of_bad]
  refine ⟨rfl, _, rfl, rfl, ?_, Banks.setPending_revision _ _, rfl, rfl, rfl, fun b h hheld hlength => ?_,
    fun m hm => ?_, rfl, rfl⟩
  · exact Banks.setPending_active _ _
  · have hentry : ({ s.profiles with ctl := .idle } : ProfileStore).entry n = s.profiles.entry n := rfl
    show (ProfileStore.foundBad n _).entry n = _
    rw [ProfileStore.foundBad, hentry, hheld]
    exact ProfileStore.entry_setEntry_same (p := { s.profiles with ctl := .idle }) hlength _
  · exact ProfileStore.entry_setEntry_ne (p := { s.profiles with ctl := .idle }) hm _

/-! ### The directory write (R154, R162) -/

/-- R154: the directory of a copy whose check passes. -/
def DirCopy.passed (pass : Bool) (c : DirCopy) : Option Directory := if pass then c.directory? else none

theorem DirCopy.passed_eq_some_iff {pass : Bool} {c : DirCopy} {d : Directory} :
    c.passed pass = some d ↔ pass = true ∧ c = .held d := by
  cases pass <;> cases c <;> simp [DirCopy.passed, DirCopy.directory?]

theorem DirCopy.passed_eq_none_iff {pass : Bool} {c : DirCopy} :
    c.passed pass = none ↔ pass = false ∨ ∀ d, c ≠ .held d := by
  cases pass <;> cases c <;> simp [DirCopy.passed, DirCopy.directory?]

theorem ProfileStore.newer_eq (p : ProfileStore) :
    p.newer = newerCopy (p.flash.copy0.passed p.pass0) (p.flash.copy1.passed p.pass1) := rfl

theorem newerCopy_eq_some {a b : Option Directory} {c : Bool} {d : Directory} (h : newerCopy a b = some (c, d)) :
    (if c then b else a) = some d := by
  unfold newerCopy at h
  split at h
  · split at h
    · cases h
      rfl
    · split at h <;> cases h <;> rfl
  · cases h
    rfl
  · cases h
    rfl
  · cases h

theorem newerCopy_eq_none {a b : Option Directory} (h : newerCopy a b = none) : a = none ∧ b = none := by
  cases a with
  | none =>
    cases b with
    | none => exact ⟨rfl, rfl⟩
    | some d => cases h
  | some d =>
    cases b with
    | none => cases h
    | some e =>
      unfold newerCopy at h
      dsimp only at h
      split at h
      · cases h
      · split at h <;> cases h

/-- R154: a copy written with the generation one above that of the other is the newer one. -/
theorem newerCopy_written (d : Directory) (boot : Option ProfileNo) (counts : List Nat) :
    newerCopy (some ⟨d.generation + 1, boot, counts⟩) (some d) = some (false, ⟨d.generation + 1, boot, counts⟩) ∧
    newerCopy (some d) (some ⟨d.generation + 1, boot, counts⟩) = some (true, ⟨d.generation + 1, boot, counts⟩) := by
  have hgeneration : d.generation ≠ d.generation + 1 + 1 := by bv_omega
  exact ⟨if_pos rfl, (if_neg hgeneration).trans (if_pos rfl)⟩

section Directory

variable {p : ProfileStore} {c : Bool} {d : Directory}

theorem ProfileStore.writeTarget_of_newer (h : p.newer = some (c, d)) : p.writeTarget = !c := by
  rw [ProfileStore.writeTarget, h]

theorem ProfileStore.writeTarget_of_none (h : p.newer = none) : p.writeTarget = false := by
  rw [ProfileStore.writeTarget, h]

theorem ProfileStore.nextGeneration_of_newer (h : p.newer = some (c, d)) :
    p.nextGeneration = d.generation + 1 := by
  rw [ProfileStore.nextGeneration, h]

theorem ProfileStore.nextGeneration_of_none (h : p.newer = none) : p.nextGeneration = 1 := by
  rw [ProfileStore.nextGeneration, h]

/-- R154: the newer copy after the older one is written anew. -/
theorem ProfileStore.newer_setCopy (h : p.newer = some (c, d)) (new : DirCopy) (passes : Bool) :
    (p.setCopy (!c) new passes).newer =
      if c then newerCopy (new.passed passes) (some d) else newerCopy (some d) (new.passed passes) := by
  have hcopy := newerCopy_eq_some h
  cases c with
  | false => exact congrArg (fun a => newerCopy a (new.passed passes)) hcopy
  | true => exact congrArg (fun b => newerCopy (new.passed passes) b) hcopy

theorem ProfileStore.newer_setCopy_of_none (h : p.newer = none) (new : DirCopy) (passes : Bool) :
    (p.setCopy false new passes).newer = newerCopy (new.passed passes) none :=
  congrArg (newerCopy (new.passed passes)) (newerCopy_eq_none h).2

/-- R162: the beginning of a directory write leaves the newer copy. -/
theorem ProfileStore.beginDirectory_newer (p : ProfileStore) : p.beginDirectory.newer = p.newer := by
  unfold ProfileStore.beginDirectory
  cases hnewer : p.newer with
  | none => rw [ProfileStore.writeTarget_of_none hnewer, ProfileStore.newer_setCopy_of_none hnewer]; rfl
  | some x =>
    obtain ⟨c, d⟩ := x
    rw [ProfileStore.writeTarget_of_newer hnewer, ProfileStore.newer_setCopy hnewer]
    cases c <;> rfl

/-- R154: the end of a directory write, in the copies. -/
theorem ProfileStore.endDirectory_written (p : ProfileStore) (written : Bool) (boot : Option ProfileNo)
    (counts : List Nat) : Spec.DirectoryWritten written boot counts p (p.endDirectory written boot counts) := by
  unfold ProfileStore.endDirectory
  refine ⟨fun c d hnewer => ?_, fun hnewer => ?_⟩
  · obtain ⟨hwritten0, hwritten1⟩ := newerCopy_written d boot counts
    rw [ProfileStore.writeTarget_of_newer hnewer, ProfileStore.nextGeneration_of_newer hnewer,
      ProfileStore.newer_setCopy hnewer]
    cases c with
    | false =>
      refine ⟨rfl, fun h => ⟨rfl, ?_⟩, fun h => ?_⟩
      · rw [h]
        exact hwritten1
      · rw [h]
        rfl
    | true =>
      refine ⟨rfl, fun h => ⟨rfl, ?_⟩, fun h => ?_⟩
      · rw [h]
        exact hwritten0
      · rw [h]
        rfl
  · rw [ProfileStore.writeTarget_of_none hnewer, ProfileStore.nextGeneration_of_none hnewer,
      ProfileStore.newer_setCopy_of_none hnewer]
    refine ⟨rfl, fun h => ⟨rfl, ?_⟩, fun h => ?_⟩
    · rw [h]
      rfl
    · rw [h]
      rfl

/-- A directory write ends in its copies only. -/
theorem ProfileStore.endDirectory_rest (p : ProfileStore) (written : Bool) (boot : Option ProfileNo)
    (counts : List Nat) :
    (p.endDirectory written boot counts).entries = p.entries ∧
    (p.endDirectory written boot counts).boot = p.boot ∧
    (p.endDirectory written boot counts).flash.areas = p.flash.areas := by
  unfold ProfileStore.endDirectory ProfileStore.setCopy
  split <;> exact ⟨rfl, rfl, rfl⟩

/-- What a directory write leaves shows in the two copies and their checks. -/
theorem Spec.DirectoryWritten.of_copies {written : Bool} {boot : Option ProfileNo} {counts : List Nat}
    {p q q' : ProfileStore} (h : Spec.DirectoryWritten written boot counts p q)
    (hcopy0 : q'.flash.copy0 = q.flash.copy0) (hcopy1 : q'.flash.copy1 = q.flash.copy1)
    (hpass0 : q'.pass0 = q.pass0) (hpass1 : q'.pass1 = q.pass1) :
    Spec.DirectoryWritten written boot counts p q' := by
  have hnewer : q'.newer = q.newer := by
    rw [ProfileStore.newer_eq, ProfileStore.newer_eq, hcopy0, hcopy1, hpass0, hpass1]
  unfold Spec.DirectoryWritten
  rw [hnewer, hcopy0, hcopy1]
  exact h

end Directory

/-! ### The beginning of the directory write of a store or an erase (R162) -/

/-- The operation has dealt with its area, and the directory write begins. -/
def ProfileStore.directoryBegun (n : ProfileNo) (area : Area) (next : Ctl) (p : ProfileStore) : ProfileStore :=
  ((p.setArea n area).beginDirectory).setCtl next

theorem ProfileStore.beginDirectoryPhase_storing {p : ProfileStore} {n : ProfileNo} {image : Profile}
    (h : p.ctl = .storing n image false) :
    p.beginDirectoryPhase = p.directoryBegun n (.held image) (.storing n image true) := by
  unfold ProfileStore.beginDirectoryPhase
  rw [h]
  rfl

theorem ProfileStore.beginDirectoryPhase_erasing {p : ProfileStore} {n : ProfileNo} {erased : Area}
    (h : p.ctl = .erasing n erased false) :
    p.beginDirectoryPhase = p.directoryBegun n .blank (.erasing n erased true) := by
  unfold ProfileStore.beginDirectoryPhase
  rw [h]
  rfl

/-- Once begun, or with no such operation in flight, there is nothing to begin. -/
theorem ProfileStore.beginDirectoryPhase_eq_self {p : ProfileStore}
    (hstoring : ∀ n image, p.ctl ≠ .storing n image false)
    (herasing : ∀ n erased, p.ctl ≠ .erasing n erased false) : p.beginDirectoryPhase = p := by
  unfold ProfileStore.beginDirectoryPhase
  split
  · next h => exact absurd h (hstoring _ _)
  · next h => exact absurd h (herasing _ _)
  · rfl

theorem ProfileStore.beginDirectoryPhase_of_begun {p : ProfileStore} {n : ProfileNo}
    (h : (∃ image, p.ctl = .storing n image true) ∨ ∃ erased, p.ctl = .erasing n erased true) :
    p.beginDirectoryPhase = p := by
  refine ProfileStore.beginDirectoryPhase_eq_self (fun m image hctl => ?_) fun m erased hctl => ?_
  · rcases h with ⟨_, h⟩ | ⟨_, h⟩ <;> rw [hctl] at h <;> cases h
  · rcases h with ⟨_, h⟩ | ⟨_, h⟩ <;> rw [hctl] at h <;> cases h

section Begun

variable (p : ProfileStore) (n : ProfileNo) (area : Area) (next : Ctl)

theorem ProfileStore.directoryBegun_rest :
    (p.directoryBegun n area next).ctl = next ∧
    (p.directoryBegun n area next).entries = p.entries ∧ (p.directoryBegun n area next).boot = p.boot ∧
    (p.directoryBegun n area next).flash.areas = p.flash.areas.set n.val area := by
  obtain ⟨hentries, hboot, hareas⟩ := (p.setArea n area).beginDirectory_rest
  exact ⟨rfl, hentries, hboot, hareas⟩

theorem ProfileStore.directoryBegun_newer : (p.directoryBegun n area next).newer = p.newer :=
  (p.setArea n area).beginDirectory_newer

theorem ProfileStore.directoryBegun_area (m : ProfileNo) :
    (p.directoryBegun n area next).area m = (p.setArea n area).area m := by
  obtain ⟨_, _, _, hareas⟩ := p.directoryBegun_rest n area next
  rw [ProfileStore.area, hareas]
  rfl

/-- What is begun is the store's part of DIRECTORY_WRITE_BEGIN. -/
theorem ProfileStore.directoryBegun_copies :
    (∀ (c : Bool) (d : Directory), p.newer = some (c, d) →
      (if c then (p.directoryBegun n area next).flash.copy1 else (p.directoryBegun n area next).flash.copy0) =
        (if c then p.flash.copy1 else p.flash.copy0) ∧
      (if c then (p.directoryBegun n area next).flash.copy0 else (p.directoryBegun n area next).flash.copy1) =
        .torn) ∧
    (p.newer = none →
      (p.directoryBegun n area next).flash.copy0 = .torn ∧
      (p.directoryBegun n area next).flash.copy1 = p.flash.copy1) :=
  (p.setArea n area).beginDirectory_copies

end Begun

/-! ### The ends of a store, an erase and a boot choice write (R159, R160, R161) -/

theorem raiseCount_counts (p : ProfileStore) (n : ProfileNo) :
    raiseCount n p.counts =
      (p.entries.map Entry.writeCount).set n.val (min 255 ((p.entry n).writeCount + 1)) := by
  have hcount : p.counts.getD n.val 0 = (p.entry n).writeCount := by
    simp only [ProfileStore.counts, ProfileStore.entry, List.getD_eq_getElem?_getD, List.getElem?_map]
    cases p.entries[n.val]? <;> rfl
  rw [raiseCount, hcount, ProfileStore.counts]

/-- R160: an erase's directory write ended: the copies, the boot choice, the entry and the area. -/
theorem ProfileStore.endErase_eq (p : ProfileStore) (n : ProfileNo) (erased : Area) (blank written : Bool) :
    p.endErase n erased blank written =
      { p.endDirectory written (bootWithout n p.boot) p.counts with
        ctl := .idle
        boot := if written then bootWithout n p.boot else p.boot
        entries := p.entries.set n.val
          ⟨if blank then none else (p.entry n).held.map fun h => (false, h.2), (p.entry n).writeCount⟩
        flash := { (p.endDirectory written (bootWithout n p.boot) p.counts).flash with
          areas := if blank then p.flash.areas else p.flash.areas.set n.val erased.leftNotBlank } } := by
  unfold ProfileStore.endErase ProfileStore.endDirectory ProfileStore.setCopy
  cases p.writeTarget <;> cases written <;> cases blank <;> rfl

section Ends

variable (s : State)

theorem exec_storeCompletion {n : ProfileNo} {image : Profile} {begun : Bool}
    (h : s.profiles.ctl = .storing n image begun) (verified written : Bool) :
    exec (.storeCompletion verified written) s = .next { s with
      profiles := s.profiles.beginDirectoryPhase.endStore n image verified written
      ind := Spec.doneInd (some n) .store (if verified && written then .ok else .failed)
        (!(verified && written)) s } := by
  have hpassed : exec (.storeCompletion verified written) s = .next (s.finishStore n image verified written) := by
    show Host.Outcome.next _ = _
    rw [h]
  rw [hpassed, State.finishStore, State.done_eq]
  rfl

theorem exec_eraseCompletion {n : ProfileNo} {erased : Area} {begun : Bool}
    (h : s.profiles.ctl = .erasing n erased begun) (blank written : Bool) :
    exec (.eraseCompletion blank written) s = .next { s with
      profiles := s.profiles.beginDirectoryPhase.endErase n erased blank written
      ind := Spec.doneInd (some n) .erase (if blank && written then .ok else .failed)
        (!(blank && written)) s } := by
  have hpassed : exec (.eraseCompletion blank written) s = .next (s.finishErase n erased blank written) := by
    show Host.Outcome.next _ = _
    rw [h]
  rw [hpassed, State.finishErase, State.done_eq]
  rfl

theorem exec_directoryCompletion {choice : Option ProfileNo} (h : s.profiles.ctl = .writingDirectory choice)
    (written : Bool) :
    exec (.directoryCompletion written) s = .next { s with
      profiles := { s.profiles.endDirectory written choice s.profiles.counts with
        ctl := .idle
        boot := if written then choice else (s.profiles.endDirectory written choice s.profiles.counts).boot }
      ind := Spec.doneInd choice .setBoot (if written then .ok else .failed) (!written) s } := by
  have hpassed : exec (.directoryCompletion written) s = .next (s.finishBootWrite choice written) := by
    show Host.Outcome.next _ = _
    rw [h]
  rw [hpassed, State.finishBootWrite, State.done_eq]
  rfl

theorem exec_directoryWriteBegin :
    exec .directoryWriteBegin s = .next { s with profiles := s.profiles.beginDirectoryPhase } := rfl

/-- Log 18: a completion that finds the directory write not begun leads where it leads once it is begun. -/
theorem exec_storeCompletion_begun {n : ProfileNo} {image : Profile}
    (h : s.profiles.ctl = .storing n image false) (verified written : Bool) :
    exec (.storeCompletion verified written) s =
      exec (.storeCompletion verified written) { s with profiles := s.profiles.beginDirectoryPhase } := by
  have hctl : s.profiles.beginDirectoryPhase.ctl = .storing n image true := by
    rw [ProfileStore.beginDirectoryPhase_storing h]
    rfl
  rw [exec_storeCompletion s h,
    exec_storeCompletion { s with profiles := s.profiles.beginDirectoryPhase } hctl,
    ProfileStore.beginDirectoryPhase_of_begun (p := s.profiles.beginDirectoryPhase) (.inl ⟨image, hctl⟩)]
  rfl

theorem exec_eraseCompletion_begun {n : ProfileNo} {erased : Area}
    (h : s.profiles.ctl = .erasing n erased false) (blank written : Bool) :
    exec (.eraseCompletion blank written) s =
      exec (.eraseCompletion blank written) { s with profiles := s.profiles.beginDirectoryPhase } := by
  have hctl : s.profiles.beginDirectoryPhase.ctl = .erasing n erased true := by
    rw [ProfileStore.beginDirectoryPhase_erasing h]
    rfl
  rw [exec_eraseCompletion s h,
    exec_eraseCompletion { s with profiles := s.profiles.beginDirectoryPhase } hctl,
    ProfileStore.beginDirectoryPhase_of_begun (p := s.profiles.beginDirectoryPhase) (.inr ⟨erased, hctl⟩)]
  rfl

end Ends

/-- Settles O50: each end, once its directory write has begun, and the begin itself, by the controller's
state. -/
theorem flashOperationsUpdateTheDirectory : Obligations.FlashOperationsUpdateTheDirectory := by
  intro s hentries hareas
  refine ⟨fun n image verified written hctl => ?store, fun n erased blank written hctl => ?erase,
    fun choice written hctl => ?boot, fun n area next h => ?begin, fun hstoring herasing => ?nothing,
    fun done written => ⟨fun h => ?noStore, fun h => ?noErase, fun h => ?noBoot⟩⟩
  case store =>
    rw [exec_storeCompletion s hctl, ProfileStore.beginDirectoryPhase_of_begun (.inl ⟨image, hctl⟩)]
    have hwritten := s.profiles.endDirectory_written written s.profiles.boot (raiseCount n s.profiles.counts)
    obtain ⟨hkept, hboot, harea⟩ :=
      s.profiles.endDirectory_rest written s.profiles.boot (raiseCount n s.profiles.counts)
    refine ⟨_, rfl, rfl, hboot, ?_, fun m hm => ?_, harea, ?_, rfl, rfl⟩
    · exact ProfileStore.entry_setEntry_same (hkept ▸ hentries) _
    · exact (ProfileStore.entry_setEntry_ne hm _).trans (by rw [ProfileStore.entry, hkept]; rfl)
    · rw [← raiseCount_counts]
      exact Spec.DirectoryWritten.of_copies hwritten rfl rfl rfl rfl
  case erase =>
    rw [exec_eraseCompletion s hctl, ProfileStore.beginDirectoryPhase_of_begun (.inr ⟨erased, hctl⟩),
      ProfileStore.endErase_eq]
    have hwritten := s.profiles.endDirectory_written written (bootWithout n s.profiles.boot) s.profiles.counts
    refine ⟨_, rfl, rfl, ?_, ?_, fun m hm => ?_, rfl, Spec.DirectoryWritten.of_copies hwritten rfl rfl rfl rfl, rfl, rfl⟩
    · cases written
      · rfl
      · simp only [bootWithout, if_true, true_and]
    · exact ProfileStore.entry_setEntry_same hentries _
    · exact ProfileStore.entry_setEntry_ne hm _
  case boot =>
    rw [exec_directoryCompletion s hctl]
    have hwritten := s.profiles.endDirectory_written written choice s.profiles.counts
    obtain ⟨hkept, hboot, harea⟩ := s.profiles.endDirectory_rest written choice s.profiles.counts
    refine ⟨_, rfl, rfl, ?_, hkept, harea, Spec.DirectoryWritten.of_copies hwritten rfl rfl rfl rfl, rfl, rfl⟩
    rw [hboot]
  case begin =>
    have hbegun : s.profiles.beginDirectoryPhase = s.profiles.directoryBegun n area next := by
      rcases h with ⟨image, hctl, rfl, rfl⟩ | ⟨erased, hctl, rfl, rfl⟩
      · exact ProfileStore.beginDirectoryPhase_storing hctl
      · exact ProfileStore.beginDirectoryPhase_erasing hctl
    obtain ⟨hctl, hkept, hboot, _⟩ := s.profiles.directoryBegun_rest n area next
    obtain ⟨hnewer, hnone⟩ := s.profiles.directoryBegun_copies n area next
    refine ⟨{ s with profiles := s.profiles.beginDirectoryPhase }, exec_directoryWriteBegin s, rfl, ?_⟩
    have hends (done written : Bool) :
        ((∃ image, s.profiles.ctl = .storing n image false) →
          exec (.storeCompletion done written) s =
            exec (.storeCompletion done written) { s with profiles := s.profiles.beginDirectoryPhase }) ∧
        ((∃ erased, s.profiles.ctl = .erasing n erased false) →
          exec (.eraseCompletion done written) s =
            exec (.eraseCompletion done written) { s with profiles := s.profiles.beginDirectoryPhase }) :=
      ⟨fun ⟨_, h⟩ => exec_storeCompletion_begun s h done written,
        fun ⟨_, h⟩ => exec_eraseCompletion_begun s h done written⟩
    rw [hbegun] at hends ⊢
    refine ⟨hctl, ?_, fun m hm => ?_, hkept, hboot, ?_, hnewer, hnone, hends⟩
    · exact (s.profiles.directoryBegun_area n area next n).trans (ProfileStore.area_setArea_same hareas _)
    · exact (s.profiles.directoryBegun_area n area next m).trans (ProfileStore.area_setArea_ne hm _)
    · exact s.profiles.directoryBegun_newer n area next
  case nothing =>
    rw [exec_directoryWriteBegin, ProfileStore.beginDirectoryPhase_eq_self hstoring herasing]
  case noStore =>
    show Host.Outcome.next _ = _
    split
    · next hctl => exact absurd hctl (h _ _ _)
    · rfl
  case noErase =>
    show Host.Outcome.next _ = _
    split
    · next hctl => exact absurd hctl (h _ _ _)
    · rfl
  case noBoot =>
    show Host.Outcome.next _ = _
    split
    · next hctl => exact absurd hctl (h _)
    · rfl

end Sys2Proof.Machine
end

section
/-! PROOFS. Chapter 8, the start-up scan (R154, R156) and what it finds after a reset that cut a flash
operation (R162). -/

namespace Sys2Proof.Machine

/-! ### An area read (R154) -/

/-- What the scan makes of an area is a reading of it; the header of a half-blanked area is a free value. -/
theorem scanArea_areaRead (a : Area) (r : AreaReading) (free : Nat) :
    ∃ found, Spec.AreaRead a r found (scannedArea a r) ∧
      (scanArea a r free).map Prod.fst = found.map Prod.fst ∧
      ∀ sound h, found = some (sound, some h) → scanArea a r free = some (sound, h) := by
  have hheader {p : Profile} {b : Bool} : ∀ (sound : Bool) (h : Header),
      some (b, some p.header) = some (sound, some h) → some (b, p.header) = some (sound, h) := by
    rintro sound h heq
    cases heq
    rfl
  have hnone {x : Option (Bool × Header)} {b : Bool} : ∀ (sound : Bool) (h : Header),
      (some (b, none) : Option (Bool × Option Header)) = some (sound, some h) → x = some (sound, h) :=
    fun _ _ heq => nomatch heq
  cases a with
  | blank => exact ⟨_, .blank r, rfl, fun _ _ heq => nomatch heq⟩
  | torn p => exact ⟨_, .torn p r, rfl, hheader⟩
  | held p =>
    cases r with
    | blank => exact ⟨_, .heldBlank p, rfl, fun _ _ heq => nomatch heq⟩
    | passes => exact ⟨_, .heldPasses p, rfl, hheader⟩
    | fails => exact ⟨_, .heldFails p, rfl, hheader⟩
  | blanking p =>
    cases r with
    | blank => exact ⟨_, .blankingBlank p, rfl, fun _ _ heq => nomatch heq⟩
    | passes => exact ⟨_, .blanking p .passes (by decide), rfl, hnone⟩
    | fails => exact ⟨_, .blanking p .fails (by decide), rfl, hnone⟩
  | unblanked p =>
    cases r with
    | blank => exact ⟨_, .unblankedBlank p, rfl, fun _ _ heq => nomatch heq⟩
    | passes => exact ⟨_, .unblankedPasses p, rfl, hheader⟩
    | fails => exact ⟨_, .unblankedFails p, rfl, hnone⟩

/-- The store after the scan has read area `n`. -/
def ProfileStore.areaScanned (n : ProfileNo) (r : AreaReading) (free : Nat) (p : ProfileStore) : ProfileStore :=
  { (p.setArea n (scannedArea (p.area n) r)).setEntry n
      ⟨scanArea (p.area n) r free, p.scanCounts.getD n.val 0⟩ with
    examined := p.examined + 1 }

/-- The scan reads area `n` next. -/
theorem exec_areaExamined {s : State} {n : ProfileNo} (hctl : s.profiles.ctl = .scanning)
    (hn : s.profiles.examined = n.val) (r : AreaReading) :
    exec (.profileAreaExamined (.area r)) s = .next { s with
      profiles := s.profiles.areaScanned n r s.free
      ind := if (scanArea (s.profiles.area n) r s.free).map Prod.fst = some false then
        { s.ind with flags := { s.ind.flags with profileBad := true } } else s.ind
      free := s.free + 1 } := by
  have hnext : profile? s.profiles.examined = some n := profile?_of_val hn
  have hpassed : exec (.profileAreaExamined (.area r)) s = .next (s.scanNext r) :=
    congrArg Host.Outcome.next (if_pos hctl)
  rw [hpassed, State.scanNext, hnext]
  by_cases hbad : (scanArea (s.profiles.area n) r s.free).map Prod.fst = some false
  · simp only [hbad, if_true]
    rfl
  · simp only [hbad, if_false]
    rfl

theorem ProfileStore.areaScanned_entry {p : ProfileStore} (n : ProfileNo) (h : p.entries.length = 8)
    (r : AreaReading) (free : Nat) :
    (p.areaScanned n r free).entry n = ⟨scanArea (p.area n) r free, p.scanCounts.getD n.val 0⟩ :=
  ProfileStore.entry_setEntry_same (p := p.setArea n (scannedArea (p.area n) r)) h _

/-! ### The directory read (R154) -/

theorem ProfileStore.withPasses_newer (p : ProfileStore) (pass0 pass1 : Bool) :
    (p.withPasses pass0 pass1).newer =
      newerCopy (p.flash.copy0.passed pass0) (p.flash.copy1.passed pass1) := by
  have hpassed (pass : Bool) (c : DirCopy) : c.passed (pass && c.directory?.isSome) = c.passed pass := by
    cases pass <;> cases c <;> rfl
  rw [ProfileStore.newer_eq]
  exact congrArg₂ newerCopy (hpassed _ _) (hpassed _ _)

/-- R154: the copy that the scan takes, by the checks of the two. -/
theorem ProfileStore.scanTakes (p : ProfileStore) (pass0 pass1 : Bool) :
    Spec.ScanTakes p.flash pass0 pass1 ((p.withPasses pass0 pass1).newer.map Prod.snd) := by
  rw [ProfileStore.withPasses_newer]
  cases h0 : p.flash.copy0.passed pass0 with
  | none =>
    have hno0 := DirCopy.passed_eq_none_iff.1 h0
    cases h1 : p.flash.copy1.passed pass1 with
    | none => exact .neither hno0 (DirCopy.passed_eq_none_iff.1 h1)
    | some d1 =>
      obtain ⟨hpass1, hcopy1⟩ := DirCopy.passed_eq_some_iff.1 h1
      exact .only1 d1 hpass1 hcopy1 hno0
  | some d0 =>
    obtain ⟨hpass0, hcopy0⟩ := DirCopy.passed_eq_some_iff.1 h0
    cases h1 : p.flash.copy1.passed pass1 with
    | none => exact .only0 d0 hpass0 hcopy0 (DirCopy.passed_eq_none_iff.1 h1)
    | some d1 =>
      obtain ⟨hpass1, hcopy1⟩ := DirCopy.passed_eq_some_iff.1 h1
      unfold newerCopy
      dsimp only
      by_cases h01 : d0.generation = d1.generation + 1
      · rw [if_pos h01]
        exact .copy0Newer d0 d1 hpass0 hpass1 hcopy0 hcopy1 (.inl h01)
      · rw [if_neg h01]
        by_cases h10 : d1.generation = d0.generation + 1
        · rw [if_pos h10]
          exact .copy1Newer d0 d1 hpass0 hpass1 hcopy0 hcopy1 h10 h01
        · rw [if_neg h10]
          exact .copy0Newer d0 d1 hpass0 hpass1 hcopy0 hcopy1 (.inr h10)

/-- R154: with no area read yet, the directory read changes no entry. -/
theorem ProfileStore.directoryRead_entries {p : ProfileStore} (h : p.examined = 0) (pass0 pass1 : Bool) :
    (p.directoryRead pass0 pass1).entries = p.entries := by
  simp [ProfileStore.directoryRead, h, List.mapIdx_eq_iff]

/-- R154: the boot choice and the counts of the copy taken, NONE and zeros where neither passes. -/
theorem ProfileStore.directoryRead_found (p : ProfileStore) (pass0 pass1 : Bool) :
    (p.directoryRead pass0 pass1).boot =
      ((p.withPasses pass0 pass1).newer.map Prod.snd).bind Directory.boot ∧
    (p.directoryRead pass0 pass1).scanCounts =
      ((p.withPasses pass0 pass1).newer.map Prod.snd).elim (List.replicate 8 0) Directory.counts := by
  unfold ProfileStore.directoryRead ProfileStore.foundCounts
  cases (p.withPasses pass0 pass1).newer <;> exact ⟨rfl, rfl⟩

/-- The scan reads the directory. -/
theorem exec_directoryExamined {s : State} (hctl : s.profiles.ctl = .scanning)
    (hread : s.profiles.dirRead = false) (pass0 pass1 : Bool) :
    exec (.profileAreaExamined (.directory pass0 pass1)) s = .next { s with
      profiles := s.profiles.directoryRead pass0 pass1
      ind := if (s.profiles.withPasses pass0 pass1).newer = none ∧
          ¬ (s.profiles.flash.copy0 = .blank ∧ s.profiles.flash.copy1 = .blank) then
        { s.ind with flags := { s.ind.flags with profileBad := true } } else s.ind } := by
  have hpassed : exec (.profileAreaExamined (.directory pass0 pass1)) s =
      .next (s.scanDirectory pass0 pass1) := by
    refine congrArg Host.Outcome.next ((if_pos hctl).trans ?_)
    show (if s.profiles.dirRead then s else s.scanDirectory pass0 pass1) = _
    rw [hread]
    rfl
  have hbad : ((s.profiles.withPasses pass0 pass1).newer.isNone && !(decide (s.profiles.flash.copy0 = .blank) &&
      decide (s.profiles.flash.copy1 = .blank))) = true ↔
      (s.profiles.withPasses pass0 pass1).newer = none ∧
        ¬ (s.profiles.flash.copy0 = .blank ∧ s.profiles.flash.copy1 = .blank) := by
    rw [Bool.and_eq_true, Option.isNone_iff_eq_none, Bool.not_eq_true', ← Bool.not_eq_true, Bool.and_eq_true,
      decide_eq_true_iff, decide_eq_true_iff]
  rw [hpassed, State.scanDirectory_eq]
  by_cases h : (s.profiles.withPasses pass0 pass1).newer = none ∧
      ¬ (s.profiles.flash.copy0 = .blank ∧ s.profiles.flash.copy1 = .blank)
  · rw [if_pos (hbad.2 h), if_pos h]
    rfl
  · rw [if_neg (mt hbad.1 h), if_neg h]
    rfl

/-- Settles O51: each part of the scan, an area by its reading and the directory by the checks of its copies. -/
theorem scanReadsTheFlash : Obligations.ScanReadsTheFlash := by
  intro s hctl hentries hareas
  refine ⟨fun n r hn => ?area, fun pass0 pass1 hread hexamined => ?directory⟩
  case area =>
    obtain ⟨found, hfound, hsound, hheader⟩ := scanArea_areaRead (s.profiles.area n) r s.free
    have hentry := ProfileStore.areaScanned_entry n hentries r s.free
    rw [exec_areaExamined hctl hn]
    refine ⟨_, found, rfl, ?_, ?_, hctl, rfl, fun m hm => ⟨?_, ?_⟩, rfl, rfl, ?_, ?_, fun sound h hf => ?_, ?_,
      rfl⟩
    · have harea : (s.profiles.areaScanned n r s.free).area n = scannedArea (s.profiles.area n) r :=
        ProfileStore.area_setArea_same hareas _
      rw [harea]
      exact hfound
    · exact congrArg (· + 1) hn
    · exact ProfileStore.entry_setEntry_ne (p := s.profiles.setArea n _) hm _
    · exact ProfileStore.area_setArea_ne hm _
    · rw [hentry]
    · rw [hentry]
      exact hsound
    · rw [hentry]
      exact hheader sound h hf
    · rw [hsound]
  case directory =>
    obtain ⟨hboot, hcounts⟩ := s.profiles.directoryRead_found pass0 pass1
    rw [exec_directoryExamined hctl hread]
    refine ⟨_, _, rfl, rfl, s.profiles.scanTakes pass0 pass1,
      ProfileStore.directoryRead_entries hexamined pass0 pass1, rfl, hctl, hexamined, fun d htaken => ?_,
      fun htaken => ?_, rfl⟩
    · rw [htaken] at hboot hcounts
      refine ⟨hboot, hcounts, if_neg ?_⟩
      rintro ⟨hnone, _⟩
      rw [hnone] at htaken
      cases htaken
    · rw [htaken] at hboot hcounts
      have hnone : (s.profiles.withPasses pass0 pass1).newer = none := Option.map_eq_none_iff.1 htaken
      refine ⟨hboot, hcounts, ?_⟩
      by_cases hblank : s.profiles.flash.copy0 = .blank ∧ s.profiles.flash.copy1 = .blank
      · rw [if_pos hblank]
        exact if_neg fun h => h.2 hblank
      · rw [if_neg hblank]
        exact if_pos ⟨hnone, hblank⟩

/-! ### A reset that cuts a flash operation (R162) -/

/-- R164: the scan after a reset, once it has read the areas before area `n`. -/
def ProfileStore.restartedAt (n : ProfileNo) (q : ProfileStore) : ProfileStore :=
  { resetProfiles q.flash with examined := n.val }

/-- R154: of two copies the scan takes copy `c` where its check is the one that passes. -/
theorem ProfileStore.restartedAt_newer {q : ProfileStore} {c : Bool} {d : Directory} (n : ProfileNo)
    (hcopy : (if c then q.flash.copy1 else q.flash.copy0) = .held d) :
    ((q.restartedAt n).withPasses (c == false) c).newer = some (c, d) := by
  rw [ProfileStore.withPasses_newer]
  cases c with
  | false =>
    have hpassed : (q.restartedAt n).flash.copy0.passed (false == false) = some d :=
      DirCopy.passed_eq_some_iff.2 ⟨rfl, hcopy⟩
    rw [hpassed]
    rfl
  | true =>
    have hpassed : (q.restartedAt n).flash.copy1.passed true = some d :=
      DirCopy.passed_eq_some_iff.2 ⟨rfl, hcopy⟩
    rw [hpassed]
    rfl

/-- The scan that follows a reset, of a flash whose copy `c` is sound: the directory, then area `n`. -/
theorem reset_then_scan {q : ProfileStore} {c : Bool} {d : Directory} (n : ProfileNo) (straps : BitVec 2)
    (s : State) (r : AreaReading) (hcopy : (if c then q.flash.copy1 else q.flash.copy0) = .held d) :
    ∃ t,
      (∃ t1 t2, exec (.resetN straps) { s with profiles := q } = .next t1 ∧
        exec (.profileAreaExamined (.directory (c == false) c))
          { t1 with profiles := { t1.profiles with examined := n.val } } = .next t2 ∧
        exec (.profileAreaExamined (.area r)) t2 = .next t) ∧
      ((t.profiles.entry n).writeCount = d.counts.getD n.val 0 ∧ t.profiles.boot = d.boot ∧
        t.profiles.ctl = .scanning ∧ t.pendingBank = defaultStore) ∧
      (t.profiles.entry n).held = scanArea (q.area n) r s.free := by
  obtain ⟨hboot, hcounts⟩ := (q.restartedAt n).directoryRead_found (c == false) c
  rw [ProfileStore.restartedAt_newer n hcopy] at hboot hcounts
  have hlength : ((q.restartedAt n).directoryRead (c == false) c).entries.length = 8 := by
    simp [ProfileStore.restartedAt, ProfileStore.directoryRead, resetProfiles]
  have hentry := ProfileStore.areaScanned_entry n hlength r s.free
  refine ⟨_, ⟨_, _, rfl, exec_directoryExamined rfl rfl _ _, exec_areaExamined (n := n) rfl rfl r⟩,
    ⟨?_, hboot, rfl, rfl⟩, congrArg Entry.held hentry⟩
  exact (congrArg Entry.writeCount hentry).trans (by rw [hcounts]; rfl)

/-- R154: the newer copy holds what the controller knows. -/
theorem ProfileStore.newer_held {p : ProfileStore} {c : Bool} {d : Directory} (h : p.newer = some (c, d)) :
    (if c then p.flash.copy1 else p.flash.copy0) = .held d := by
  have hcopy := newerCopy_eq_some h
  cases c with
  | false => exact ((DirCopy.passed_eq_some_iff (pass := p.pass0)).1 hcopy).2
  | true => exact ((DirCopy.passed_eq_some_iff (pass := p.pass1)).1 hcopy).2

/-- R162: the beginning of a directory write leaves the copy that the scan takes. -/
theorem ProfileStore.directoryBegun_held {p : ProfileStore} {c : Bool} {d : Directory}
    (h : p.newer = some (c, d)) (n : ProfileNo) (area : Area) (next : Ctl) :
    (if c then (p.directoryBegun n area next).flash.copy1 else (p.directoryBegun n area next).flash.copy0) =
      .held d :=
  (((p.directoryBegun_copies n area next).1 c d h).1).trans (p.newer_held h)

theorem scanArea_blankingOf {a : Area} (h : a ≠ .blank) (r : AreaReading) (free : Nat) :
    (scanArea a.blankingOf r free).map Prod.fst = if r = .blank then none else some false := by
  cases a with
  | blank => exact absurd rfl h
  | held p | torn p | blanking p | unblanked p => cases r <;> rfl

theorem scanArea_held (p : Profile) (r : AreaReading) (free : Nat) :
    scanArea (.held p) r free = match r with
      | .blank => none
      | .passes => some (true, p.header)
      | .fails => some (false, p.header) := by
  cases r <;> rfl

/-- Settles O53: what the scan finds is what the reading makes of the area as the operation left it, beside the
newer directory copy, which no operation touches. -/
theorem resetDuringAFlashOperation : Obligations.ResetDuringAFlashOperation := by
  intro p n image old c d straps s r hareas hnewer
  have hcopy := p.newer_held hnewer
  refine ⟨?store, ?storeDirectory, fun harea => ⟨?erase, ?eraseDirectory⟩, fun hold b arm q hq => ?rest⟩
  case store =>
    obtain ⟨t, hscanned, hrecorded, hheld⟩ :=
      reset_then_scan (q := p.beginStore n image) n straps s r hcopy
    have htorn : (p.beginStore n image).area n = .torn image := ProfileStore.area_setArea_same hareas _
    exact ⟨t, hscanned, hrecorded, by rw [hheld, htorn]; rfl⟩
  case storeDirectory =>
    have hbegun := ProfileStore.beginDirectoryPhase_storing (p := p.beginStore n image) (image := image) rfl
    have hwhole : ((p.beginStore n image).flash.areas).length = 8 := (List.length_set ..).trans hareas
    rw [hbegun]
    obtain ⟨t, hscanned, hrecorded, hheld⟩ := reset_then_scan n straps s r
      (ProfileStore.directoryBegun_held (p := p.beginStore n image) hnewer n (.held image)
        (.storing n image true))
    refine ⟨t, hscanned, hrecorded, fun hpasses => ?_⟩
    rw [hheld, ProfileStore.directoryBegun_area, ProfileStore.area_setArea_same hwhole, hpasses]
    rfl
  case erase =>
    obtain ⟨t, hscanned, hrecorded, hheld⟩ := reset_then_scan (q := p.beginErase n) n straps s r hcopy
    have hblanking : (p.beginErase n).area n = (p.area n).blankingOf := ProfileStore.area_setArea_same hareas _
    refine ⟨t, hscanned, hrecorded, ?_⟩
    rw [Entry.sound?, hheld, hblanking, scanArea_blankingOf harea]
  case eraseDirectory =>
    have hbegun := ProfileStore.beginDirectoryPhase_erasing (p := p.beginErase n) rfl
    have hwhole : ((p.beginErase n).flash.areas).length = 8 := (List.length_set ..).trans hareas
    rw [hbegun]
    obtain ⟨t, hscanned, hrecorded, hheld⟩ := reset_then_scan n straps s r
      (ProfileStore.directoryBegun_held (p := p.beginErase n) hnewer n .blank
        (.erasing n (p.area n).blankingOf true))
    refine ⟨t, hscanned, hrecorded, ?_⟩
    rw [hheld, ProfileStore.directoryBegun_area, ProfileStore.area_setArea_same hwhole]
    rfl
  case rest =>
    have hkept : (if c then q.flash.copy1 else q.flash.copy0) = .held d ∧ q.area n = .held old := by
      rcases hq with rfl | rfl
      · obtain ⟨hcopies, _⟩ := p.beginDirectory_copies
        obtain ⟨_, _, hsame⟩ := p.beginDirectory_rest
        exact ⟨(hcopies c d hnewer).1.trans hcopy, (congrArg (fun l => l.getD n.val .blank) hsame).trans hold⟩
      · exact ⟨hcopy, hold⟩
    obtain ⟨hcopy', hold'⟩ := hkept
    obtain ⟨t, hscanned, hrecorded, hheld⟩ := reset_then_scan n straps s r hcopy'
    refine ⟨t, hscanned, hrecorded, ?_⟩
    rw [hheld, hold']
    exact scanArea_held old r s.free

end Sys2Proof.Machine
end

section
/-! PROOFS. Chapter 10, the records that an event adds to the queue (R184), read back; Chapter 8, the end of the
start-up scan (R165). -/

namespace Sys2Proof.Machine

/-! ### Records posted, read back from the queue (R184, R186) -/

/-- With room for every record, the queue grows by those whose kind is not masked. -/
theorem Indications.Grows.queue_eq {stamp : BitVec 32} {bodies : List IndBody} {i j : Indications}
    (h : Indications.Grows stamp bodies i j) (hroom : i.queue.length + bodies.length ≤ 32) :
    j.queue = i.queue ++ (bodies.filter fun b => !i.mask.toNat.testBit b.kindCode).map (⟨·, stamp⟩) ∧
      j.mask = i.mask := by
  induction h with
  | nil => simp
  | flags _ _ ih => exact ih hroom
  | @post bodies i j b _ ih =>
    rw [List.length_append, List.length_singleton] at hroom
    obtain ⟨hqueue, hmask⟩ := ih (by omega)
    have hfew := List.length_filter_le (fun b => !i.mask.toNat.testBit b.kindCode) bodies
    have hlength : j.queue.length < 32 := by
      rw [hqueue, List.length_append, List.length_map]
      omega
    unfold Indications.posted
    rw [hmask]
    cases hmasked : i.mask.toNat.testBit b.kindCode with
    | true => simpa [hmasked, hmask] using hqueue
    | false =>
      rw [if_neg (Bool.false_ne_true), if_pos hlength]
      exact ⟨by simp [hmasked, hqueue], rfl⟩

/-- The records of one kind among those posted. -/
theorem State.Posted.posts {bodies : List IndBody} {s t : State} (h : State.Posted bodies s t)
    (hfew : bodies.length ≤ 16) {kind : Nat} {which : IndBody → Bool}
    (hkind : ∀ b, which b = true → b.kindCode = kind) :
    Spec.Posts s.timer.counter kind which (bodies.filter which) s t := by
  intro hroom
  obtain ⟨hqueue, _⟩ := h.1.queue_eq (by omega)
  refine ⟨⟨_, hqueue.symm⟩, ?_⟩
  have hsame : ((fun r : Indication => which r.body) ∘ fun b => ⟨b, s.timer.counter⟩) = which := rfl
  rw [hqueue, List.drop_left, List.filter_map, hsame, List.filter_filter]
  cases hmasked : s.ind.mask.toNat.testBit kind with
  | true =>
    have hnone : bodies.filter (fun b => which b && !s.ind.mask.toNat.testBit b.kindCode) = [] := by
      refine List.filter_eq_nil_iff.2 fun b _ hb => ?_
      obtain ⟨hwhich, hunmasked⟩ := Bool.and_eq_true_iff.1 hb
      rw [hkind b hwhich, hmasked] at hunmasked
      contradiction
    rw [hnone]
    rfl
  | false =>
    have hall : ∀ b ∈ bodies, (which b && !s.ind.mask.toNat.testBit b.kindCode) = which b := by
      intro b _
      cases hwhich : which b with
      | true => rw [hkind b hwhich, hmasked]; rfl
      | false => rfl
    rw [List.filter_congr hall]
    rfl

theorem Spec.kindCode_of_ofKind {kind : Nat} {b : IndBody} (h : Spec.ofKind kind b = true) :
    b.kindCode = kind :=
  eq_of_beq h

theorem Spec.kindCode_of_ofOutput {k : Output} {b : IndBody} (h : Spec.ofOutput k b = true) :
    b.kindCode = 2 := by
  cases b with
  | outputState j st cause => rfl
  | _ => cases h

/-! ### An operation that posts and does nothing else to the indications -/

/-- From `s` to `t` the indications take the records `bodies` in turn, and nothing else. -/
def State.Says (bodies : List IndBody) (s t : State) : Prop :=
  t.ind = bodies.foldl (fun i b => i.posted b s.timer.counter) s.ind ∧ t.timer.counter = s.timer.counter

section Says

variable {s t u : State} {bs cs : List IndBody}

theorem State.Says.trans (h : State.Says bs s t) (h' : State.Says cs t u) : State.Says (bs ++ cs) s u := by
  refine ⟨?_, h'.2.trans h.2⟩
  rw [List.foldl_append, ← h.1, h'.1, h.2]

theorem State.says_of_eq (hind : t.ind = s.ind) (hcounter : t.timer.counter = s.timer.counter) :
    State.Says [] s t :=
  ⟨hind, hcounter⟩

theorem State.says_post {b : IndBody} (hind : t.ind = s.ind.posted b s.timer.counter)
    (hcounter : t.timer.counter = s.timer.counter) : State.Says [b] s t :=
  ⟨hind, hcounter⟩

theorem State.Says.posted (h : State.Says bs s t) : State.Posted bs s t := by
  obtain ⟨hind, hcounter⟩ := h
  refine ⟨?_, hcounter⟩
  have hgrows (done : List IndBody) (i : Indications) (hi : Indications.Grows s.timer.counter done s.ind i) :
      Indications.Grows s.timer.counter (done ++ bs) s.ind
        (bs.foldl (fun i b => i.posted b s.timer.counter) i) := by
    clear hind
    induction bs generalizing done i with
    | nil => simpa using hi
    | cons b bs ih => simpa using ih (done ++ [b]) _ (hi.post b)
  rw [hind]
  exact hgrows [] s.ind .nil

/-- With room for every record no flag changes. -/
theorem State.Says.flags_eq (h : State.Says bs s t) (hroom : s.ind.queue.length + bs.length ≤ 32) :
    t.ind.flags = s.ind.flags := by
  rw [h.1]
  generalize s.ind = i at hroom
  clear h
  induction bs generalizing i with
  | nil => rfl
  | cons b bs ih =>
    rw [List.length_cons] at hroom
    have hposted : (i.posted b s.timer.counter).flags = i.flags ∧
        (i.posted b s.timer.counter).queue.length ≤ i.queue.length + 1 := by
      unfold Indications.posted
      split
      · exact ⟨rfl, Nat.le_succ _⟩
      · rw [if_pos (by omega)]
        exact ⟨rfl, by simp⟩
    rw [List.foldl_cons, ih _ (by omega), hposted.1]

end Says

/-- At most one record, of an input state (R2). -/
def State.SaysInput (s t : State) : Prop :=
  ∃ bs, State.Says bs s t ∧ bs.length ≤ 1 ∧ ∀ b ∈ bs, b.IsInputState

theorem State.saysInput_of_eq {s t : State} (hind : t.ind = s.ind)
    (hcounter : t.timer.counter = s.timer.counter) : State.SaysInput s t :=
  ⟨[], State.says_of_eq hind hcounter, Nat.zero_le _, by simp⟩

/-- R2: a change of acquisition state posts the state entered, where it is another one. -/
theorem State.saysInput_moveTo {s u : State} (hind : u.ind = s.ind) (hcounter : u.timer.counter = s.timer.counter)
    (new : AcqState) (w : List FrameRecord) : State.SaysInput s (u.moveTo new w) := by
  have hmoved : (u.moveTo new w).timer.counter = s.timer.counter :=
    (congrArg Steady.counter (u.moveTo_steady new w)).trans hcounter
  have hposted := u.moveTo_ind new w
  unfold Indications.movedTo at hposted
  rw [hind, hcounter] at hposted
  split at hposted
  · exact State.saysInput_of_eq hposted hmoved
  · exact ⟨_, State.says_post hposted hmoved, Nat.le_refl _, by simp [IndBody.IsInputState]⟩

theorem State.saysInput_formatCheck {s u : State} (hind : u.ind = s.ind)
    (hcounter : u.timer.counter = s.timer.counter) : State.SaysInput s u.formatCheck := by
  unfold State.formatCheck
  dsimp only
  repeat' split
  · exact State.saysInput_of_eq hind hcounter
  all_goals exact State.saysInput_moveTo (s := s) (u := u.setTarget _) hind hcounter _ _

theorem State.saysInput_recadence {s u : State} (hind : u.ind = s.ind)
    (hcounter : u.timer.counter = s.timer.counter) : State.SaysInput s u.recadence := by
  unfold State.recadence
  dsimp only
  repeat' split
  · exact State.saysInput_of_eq hind hcounter
  all_goals exact State.saysInput_moveTo (s := s) (u := u.setTarget _) hind hcounter _ _

theorem State.saysInput_newCanvas (s : State) : State.SaysInput s s.newCanvas := by
  unfold State.newCanvas
  repeat' split
  · exact State.saysInput_formatCheck rfl rfl
  all_goals first
    | exact State.saysInput_of_eq rfl rfl
    | exact State.saysInput_moveTo rfl rfl _ _

theorem State.saysInput_applyInputControls (s : State) (c : InputControls) :
    State.SaysInput s (s.applyInputControls c) := by
  unfold State.applyInputControls
  dsimp only
  repeat' split
  all_goals first
    | exact State.saysInput_of_eq rfl rfl
    | exact State.saysInput_formatCheck rfl rfl
    | exact State.saysInput_recadence rfl rfl

/-! ### A boot load (R152, R165, R125) -/

/-- R125: a channel's record after a boot load. -/
def Channel.restored (st : StoredOutput) (c : Channel) : Channel :=
  if c.state = .disabled ∧ st.enable = true then
    { c with controls := st.controls, state := .acquiring, presence := 0, goodRun := 0, badRun := 0 }
  else { c with controls := st.controls }

/-- R104: the record of a channel that a boot load enables. -/
def restoreRecord (k : Output) (st : StoredOutput) (c : Channel) : List IndBody :=
  if c.state = .disabled ∧ st.enable = true then [.outputState k .acquiring .host] else []

theorem restoreRecord_length (k : Output) (st : StoredOutput) (c : Channel) :
    (restoreRecord k st c).length ≤ 1 := by
  unfold restoreRecord
  split <;> simp

theorem restoreRecord_filter_kind (k : Output) (st : StoredOutput) (c : Channel) {kind : Nat} (h : kind ≠ 2) :
    (restoreRecord k st c).filter (Spec.ofKind kind) = [] := by
  unfold restoreRecord
  split
  · simp [Spec.ofKind, IndBody.kindCode, Ne.symm h]
  · rfl

theorem restoreRecord_filter_output (j k : Output) (st : StoredOutput) (c : Channel) :
    (restoreRecord j st c).filter (Spec.ofOutput k) = if j = k then restoreRecord j st c else [] := by
  unfold restoreRecord
  split
  · by_cases hjk : j = k <;> simp [Spec.ofOutput, hjk]
  · simp

theorem State.restoreChan_eq (s : State) (k : Output) (st : StoredOutput) :
    (s.restoreChan k st).chans = s.chans.set k ((s.chan k).restored st) ∧
    State.Says (restoreRecord k st (s.chan k)) s (s.restoreChan k st) := by
  have hstate : ((s.setChan k { s.chan k with controls := st.controls }).chan k).state = (s.chan k).state := by
    simp [State.chan, State.setChan]
  unfold State.restoreChan Channel.restored restoreRecord
  dsimp only
  rw [hstate]
  by_cases h : (s.chan k).state = .disabled ∧ st.enable = true
  · simp only [h, decide_true, Bool.and_self, if_true, and_self]
    rw [State.changeChan_of_ne_lost _ _ _ _ (by simp)]
    refine ⟨?_, State.says_post rfl rfl⟩
    simp [State.setChan, State.chan, Four.set_set]
  · have hkept : (st.enable && decide ((s.chan k).state = .disabled)) = false := by
      rw [← Bool.not_eq_true, Bool.and_eq_true, decide_eq_true_iff]
      exact fun h' => h h'.symm
    rw [if_neg h, if_neg h, hkept]
    exact ⟨rfl, State.says_of_eq rfl rfl⟩

/-- R165: the state of a boot load once the banks and the input side have taken it. -/
def State.bootedInput (p : Profile) (s : State) : State :=
  let u : State := State.applyInputControls p.input { s with banks := s.banks.booted p }
  if s.active.scene.canvasDiffers p.scene then u.canvasChanged else u

theorem State.bootLoad_eq (s : State) (p : Profile) :
    s.bootLoad p = ((((s.bootedInput p).restoreChan 0 p.outs.o0).restoreChan 1 p.outs.o1).restoreChan 2
      p.outs.o2).restoreChan 3 p.outs.o3 := rfl

theorem State.bootedInput_chans (s : State) (p : Profile) : (s.bootedInput p).chans = s.chans := by
  unfold State.bootedInput
  dsimp only
  split <;> simp

/-- R165: a boot load of a profile with another canvas size empties the buffers. -/
theorem State.bootedInput_bufs {s : State} {p : Profile} (h : s.active.scene.canvasDiffers p.scene = true) :
    (s.bootedInput p).frames.bufs = Three.all .empty := by
  rw [State.bootedInput]
  simp only [h, if_true]
  rfl

theorem State.bootedInput_kept (s : State) (p : Profile) :
    (s.bootedInput p).acq.controls = p.input ∧ (s.bootedInput p).frames.mem = s.frames.mem ∧
    (s.bootedInput p).banks = s.banks.booted p := by
  have hcontrols := (acqWork_applyInputControls { s with banks := s.banks.booted p } p.input).steady_eq
  have hcanvas := (acqWork_newCanvas (State.applyInputControls p.input { s with banks := s.banks.booted p })).steady_eq
  have hboth := hcanvas.trans hcontrols
  unfold State.bootedInput
  dsimp only
  split
  · exact ⟨(congrArg Steady.controls hboth :), (congrArg Steady.mem hboth :), by simp⟩
  · exact ⟨(congrArg Steady.controls hcontrols :), (congrArg Steady.mem hcontrols :), by simp⟩

theorem State.bootedInput_says (s : State) (p : Profile) :
    ∃ bs, State.Says bs s (s.bootedInput p) ∧ bs.length ≤ 2 ∧ ∀ b ∈ bs, b.IsInputState := by
  obtain ⟨bs, hcontrols, hbs, hinput⟩ :=
    State.saysInput_applyInputControls { s with banks := s.banks.booted p } p.input
  obtain ⟨cs, hcanvas, hcs, hinput'⟩ :=
    State.saysInput_newCanvas (State.applyInputControls p.input { s with banks := s.banks.booted p })
  have hfirst : State.Says bs s (State.applyInputControls p.input { s with banks := s.banks.booted p }) := hcontrols
  unfold State.bootedInput
  dsimp only
  split
  · refine ⟨bs ++ cs, hfirst.trans hcanvas, ?_, ?_⟩
    · rw [List.length_append]
      omega
    · simpa [or_imp, forall_and] using ⟨hinput, hinput'⟩
  · exact ⟨bs, hfirst, by omega, hinput⟩

/-- R125: the four channels after a boot load. -/
theorem State.bootLoad_chan (s : State) (p : Profile) (k : Output) :
    (s.bootLoad p).chans.get k = (s.chan k).restored (p.outs.get k) := by
  have hchans := s.bootedInput_chans p
  rw [State.bootLoad_eq]
  simp only [State.restoreChan_eq, State.chan, hchans]
  match k with
  | 0 => rfl
  | 1 => rfl
  | 2 => rfl
  | 3 => rfl

/-- R104: the records of the channels that a boot load enables. -/
def bootRecords (p : Profile) (s : State) : List IndBody :=
  restoreRecord 0 p.outs.o0 (s.chan 0) ++ restoreRecord 1 p.outs.o1 (s.chan 1) ++
    restoreRecord 2 p.outs.o2 (s.chan 2) ++ restoreRecord 3 p.outs.o3 (s.chan 3)

theorem State.bootLoad_says (s : State) (p : Profile) :
    ∃ bs, State.Says (bs ++ bootRecords p s) s (s.bootLoad p) ∧ bs.length ≤ 2 ∧ ∀ b ∈ bs, b.IsInputState := by
  obtain ⟨bs, hinput, hfew, hkind⟩ := s.bootedInput_says p
  refine ⟨bs, ?_, hfew, hkind⟩
  have hchans := s.bootedInput_chans p
  obtain ⟨h0, hsays0⟩ := (s.bootedInput p).restoreChan_eq 0 p.outs.o0
  obtain ⟨h1, hsays1⟩ := ((s.bootedInput p).restoreChan 0 p.outs.o0).restoreChan_eq 1 p.outs.o1
  obtain ⟨h2, hsays2⟩ :=
    (((s.bootedInput p).restoreChan 0 p.outs.o0).restoreChan 1 p.outs.o1).restoreChan_eq 2 p.outs.o2
  obtain ⟨_, hsays3⟩ := ((((s.bootedInput p).restoreChan 0 p.outs.o0).restoreChan 1 p.outs.o1).restoreChan 2
    p.outs.o2).restoreChan_eq 3 p.outs.o3
  have hchan1 : ((s.bootedInput p).restoreChan 0 p.outs.o0).chan 1 = s.chan 1 := by
    rw [State.chan, h0, hchans]
    rfl
  have hchan2 : (((s.bootedInput p).restoreChan 0 p.outs.o0).restoreChan 1 p.outs.o1).chan 2 = s.chan 2 := by
    rw [State.chan, h1, h0, hchans]
    rfl
  have hchan3 : ((((s.bootedInput p).restoreChan 0 p.outs.o0).restoreChan 1 p.outs.o1).restoreChan 2
      p.outs.o2).chan 3 = s.chan 3 := by
    rw [State.chan, h2, h1, h0, hchans]
    rfl
  have hchan0 : (s.bootedInput p).chan 0 = s.chan 0 := congrArg (fun c => c.get 0) hchans
  rw [hchan0] at hsays0
  rw [hchan1] at hsays1
  rw [hchan2] at hsays2
  rw [hchan3] at hsays3
  exact hinput.trans (((hsays0.trans hsays1).trans hsays2).trans hsays3)

theorem bootRecords_length (p : Profile) (s : State) : (bootRecords p s).length ≤ 4 := by
  have h0 := restoreRecord_length 0 p.outs.o0 (s.chan 0)
  have h1 := restoreRecord_length 1 p.outs.o1 (s.chan 1)
  have h2 := restoreRecord_length 2 p.outs.o2 (s.chan 2)
  have h3 := restoreRecord_length 3 p.outs.o3 (s.chan 3)
  simp only [bootRecords, List.length_append]
  omega

theorem bootRecords_filter_kind (p : Profile) (s : State) {kind : Nat} (h : kind ≠ 2) :
    (bootRecords p s).filter (Spec.ofKind kind) = [] := by
  simp only [bootRecords, List.filter_append, restoreRecord_filter_kind _ _ _ h, List.append_nil]

theorem bootRecords_filter_output (p : Profile) (s : State) (k : Output) :
    (bootRecords p s).filter (Spec.ofOutput k) = restoreRecord k (p.outs.get k) (s.chan k) := by
  simp only [bootRecords, List.filter_append, restoreRecord_filter_output]
  match k with
  | 0 => simp [Four.get]
  | 1 => simp [Four.get]
  | 2 => simp [Four.get]
  | 3 => simp [Four.get]

/-- Records of input states are of no other kind. -/
theorem filter_isInputState {bs : List IndBody} (h : ∀ b ∈ bs, b.IsInputState) {which : IndBody → Bool}
    (hwhich : ∀ st f, which (.inputState st f) = false) : bs.filter which = [] := by
  refine List.filter_eq_nil_iff.2 fun b hb => ?_
  obtain ⟨st, f, rfl⟩ := h b hb
  simp [hwhich]

/-! ### The end of the scan (R165) -/

/-- R165: the controller once the scan is at its end. -/
def State.scanEnded (s : State) : State := { s with profiles := { s.profiles with ctl := .idle } }

/-- With everything read, the end of the scan acts on the boot choice at once. -/
theorem exec_scanCompletion {s : State} (hctl : s.profiles.ctl = .scanning) (hread : s.profiles.dirRead = true)
    (hexamined : s.profiles.examined = 8) : exec .scanCompletion s = .next s.scanEnded.boot.retarget := by
  have hpassed : exec .scanCompletion s = .next s.finishScan := congrArg Host.Outcome.next (if_pos hctl)
  have hstep : s.scanStep (.directory true true) = s := if_pos hread
  have hrest : s.scanRest = s := by
    rw [State.scanRest, hstep, hexamined]
    rfl
  rw [hpassed, State.finishScan, hrest]
  rfl

section Boot

variable {s : State} {n : ProfileNo}

theorem State.boot_of_none (hboot : s.profiles.boot = none) :
    s.boot = (s.profileDone none .boot .ok).changeMode .setup := by
  rw [State.boot, hboot]

theorem State.boot_of_empty (hboot : s.profiles.boot = some n) (hheld : (s.profiles.entry n).held = none) :
    s.boot = (((s.onProfiles fun p => { p with boot := none }).profileDone (some n) .boot
      .failed).flagProfileBad).changeMode .setup := by
  have hsound : (s.profiles.entry n).sound? = none := congrArg (Option.map Prod.fst) hheld
  rw [State.boot, hboot]
  dsimp only
  rw [hsound]

theorem State.boot_of_unsound {h : Header} (hboot : s.profiles.boot = some n)
    (hheld : (s.profiles.entry n).held = some (false, h)) :
    s.boot = ((s.profileDone (some n) .boot .badCheck).flagProfileBad).changeMode .setup := by
  have hsound : (s.profiles.entry n).sound? = some false := congrArg (Option.map Prod.fst) hheld
  rw [State.boot, hboot]
  dsimp only
  rw [hsound]

theorem State.boot_of_sound {h : Header} {p : Profile} (hboot : s.profiles.boot = some n)
    (hheld : (s.profiles.entry n).held = some (true, h)) (hp : (s.profiles.area n).profile? = some p) :
    s.boot = ((s.profileDone (some n) .boot .ok).bootLoad p).changeMode .run := by
  have hsound : (s.profiles.entry n).sound? = some true := congrArg (Option.map Prod.fst) hheld
  rw [State.boot, hboot]
  dsimp only
  rw [hsound, hp]

end Boot

theorem State.changeMode_eq (s : State) (m : PartMode) :
    s.changeMode m = { s with
      mode := { s.mode with mode := m }, ind := s.ind.posted (.modeChange m) s.timer.counter } :=
  State.post_eq _ _

/-- R165: a boot load, with its PROFILE_DONE before it and its MODE_CHANGE after it. -/
def State.booted (n : ProfileNo) (p : Profile) (s : State) : State :=
  ((s.profileDone (some n) .boot .ok).bootLoad p).changeMode .run

theorem State.booted_says (s : State) (n : ProfileNo) (p : Profile) :
    ∃ bs, State.Says (.profileDone (some n) .boot .ok :: (bs ++ bootRecords p s ++ [.modeChange .run])) s
      (s.booted n p) ∧ bs.length ≤ 2 ∧ ∀ b ∈ bs, b.IsInputState := by
  obtain ⟨bs, hload, hfew, hkind⟩ := (s.profileDone (some n) .boot .ok).bootLoad_says p
  refine ⟨bs, ?_, hfew, hkind⟩
  have hdone : State.Says [.profileDone (some n) .boot .ok] s (s.profileDone (some n) .boot .ok) :=
    State.says_post (by simp [State.profileDone]) (by simp)
  have hsame : bootRecords p (s.profileDone (some n) .boot .ok) = bootRecords p s := by
    simp [bootRecords, State.chan]
  rw [hsame] at hload
  have hmode (u : State) : State.Says [.modeChange .run] u (u.changeMode .run) := by
    rw [State.changeMode_eq]
    exact State.says_post rfl rfl
  exact hdone.trans (hload.trans (hmode _))

/-- What a boot load leaves as it was, and what it sets. -/
theorem State.booted_kept (s : State) (n : ProfileNo) (p : Profile) :
    (s.booted n p).mode = { s.mode with mode := .run } ∧ (s.booted n p).profiles = s.profiles ∧
    (s.booted n p).banks = s.banks.booted p ∧ (s.booted n p).acq.controls = p.input ∧
    (s.booted n p).master = s.master ∧ (s.booted n p).frames.mem = s.frames.mem ∧
    (s.booted n p).link = s.link ∧ (s.booted n p).probe = s.probe ∧ (s.booted n p).free = s.free ∧
    ∀ k, (s.booted n p).chans.get k = (s.chan k).restored (p.outs.get k) := by
  have hchan := (s.profileDone (some n) .boot .ok).bootLoad_chan p
  obtain ⟨hcontrols, hmem, hbanks⟩ := (s.profileDone (some n) .boot .ok).bootedInput_kept p
  have hload := (s.profileDone (some n) .boot .ok).bootLoad_eq p
  rw [State.booted, State.changeMode_eq]
  refine ⟨?_, ?_, ?_, ?_, ?_, ?_, ?_, ?_, ?_, fun k => ?_⟩
  · simp
  · simp
  · simpa [hload] using hbanks
  · simpa [hload] using hcontrols
  · simp
  · simpa [hload] using hmem
  · simp
  · simp
  · simp
  · simpa [State.chan] using hchan k

theorem State.booted_bufs {s : State} {n : ProfileNo} {p : Profile}
    (h : s.active.scene.canvasDiffers p.scene = true) : (s.booted n p).frames.bufs = Three.all .empty := by
  have hactive : (s.profileDone (some n) .boot .ok).active = s.active := by simp [State.active]
  have hbufs := State.bootedInput_bufs (s := s.profileDone (some n) .boot .ok) (p := p) (hactive ▸ h)
  rw [State.booted, State.changeMode_eq, State.bootLoad_eq]
  simpa using hbufs

theorem Scene.canvasDiffers_iff (a b : Scene) :
    a.canvasDiffers b = true ↔ a.canvasW ≠ b.canvasW ∨ a.canvasH ≠ b.canvasH := by
  simp [Scene.canvasDiffers]

theorem Channel.restored_of_disabled {c : Channel} (h : c.state = .disabled) (st : StoredOutput) :
    (c.restored st).controls = st.controls ∧
    (c.restored st).state = (if st.enable then .acquiring else .disabled) ∧
    (st.enable = true → (c.restored st).presence = 0 ∧ (c.restored st).goodRun = 0 ∧
      (c.restored st).badRun = 0) := by
  unfold Channel.restored
  cases st.enable <;> simp [h]

/-- Settles O52: the boot choice picks the case of `State.boot`; a boot load posts PROFILE_DONE, at most two
records of input states, those of the channels that it enables, and MODE_CHANGE. -/
theorem scanCompletionBoots : Obligations.ScanCompletionBoots := by
  intro s hctl hread hexamined
  have hexec := exec_scanCompletion hctl hread hexamined
  refine ⟨fun hboot => ?none, fun n hboot hheld => ?empty, fun n h hboot hheld => ?unsound,
    fun n h p hboot hheld hp => ?sound⟩
  case none =>
    rw [hexec, State.boot_of_none (s := s.scanEnded) hboot, State.profileDone_eq, State.changeMode_eq]
    rfl
  case empty =>
    rw [hexec, State.boot_of_empty (s := s.scanEnded) hboot hheld, State.profileDone_bad, State.changeMode_eq]
    rfl
  case unsound =>
    rw [hexec, State.boot_of_unsound (s := s.scanEnded) hboot hheld, State.profileDone_bad, State.changeMode_eq]
    rfl
  case sound =>
    obtain ⟨hmode, hprofiles, hbanks, hcontrols, hmaster, hmem, hlink, hprobe, hfree, hchans⟩ :=
      s.scanEnded.booted_kept n p
    obtain ⟨bs, hsays, hfew, hinput⟩ := s.scanEnded.booted_says n p
    have hrecords := bootRecords_length p s.scanEnded
    have hlength : (IndBody.profileDone (some n) .boot .ok ::
        (bs ++ bootRecords p s.scanEnded ++ [.modeChange .run])).length ≤ 13 := by
      simp only [List.length_cons, List.length_append, List.length_nil]
      omega
    have hposts {kind : Nat} {which : IndBody → Bool} :=
      hsays.posted.posts (hlength.trans (by decide)) (kind := kind) (which := which)
    rw [hexec, State.boot_of_sound (s := s.scanEnded) hboot hheld hp]
    refine ⟨(s.scanEnded.booted n p).retarget, rfl, hmode, hprofiles, ?_, ?_, ?_, ?_, hcontrols, rfl, ?_, ?_, ?_,
      fun k hk => ?_, fun hsize => ?_, ?_, ?_, fun k => ?_, fun hroom => ?_, hmem, hlink, hprobe, hfree⟩
    · exact (congrArg Banks.active hbanks).trans (Banks.booted_active _ _)
    · exact (congrArg Banks.pending hbanks).trans (Banks.booted_pending _ _)
    · exact congrArg Banks.revision hbanks
    · exact congrArg Banks.pendState hbanks
    · exact (congrArg Master.level hmaster :)
    · exact (congrArg Master.step hmaster :)
    · exact (congrArg Master.mute hmaster :)
    · rw [State.retarget_chans, hchans k]
      exact Channel.restored_of_disabled (c := s.scanEnded.chan k) hk (p.outs.get k)
    · exact State.booted_bufs (s := s.scanEnded) ((Scene.canvasDiffers_iff _ _).2 (hsize.imp Ne.symm Ne.symm))
    · have hdone := hposts fun _ h => Spec.kindCode_of_ofKind (kind := 5) h
      rw [List.filter_cons, List.filter_append, List.filter_append, filter_isInputState hinput fun _ _ => rfl,
        bootRecords_filter_kind _ _ (by decide)] at hdone
      exact hdone
    · have hmoded := hposts fun _ h => Spec.kindCode_of_ofKind (kind := 8) h
      rw [List.filter_cons, List.filter_append, List.filter_append, filter_isInputState hinput fun _ _ => rfl,
        bootRecords_filter_kind _ _ (by decide)] at hmoded
      exact hmoded
    · have houtput := hposts fun _ h => Spec.kindCode_of_ofOutput (k := k) h
      rw [List.filter_cons, List.filter_append, List.filter_append, filter_isInputState hinput fun _ _ => rfl,
        bootRecords_filter_output] at houtput
      have hlast : [IndBody.modeChange .run].filter (Spec.ofOutput k) = [] := rfl
      rw [hlast, List.append_nil] at houtput
      exact houtput
    · have hkept := hsays.flags_eq (by
        have : s.scanEnded.ind.queue.length ≤ 16 := hroom
        omega)
      exact hkept

end Sys2Proof.Machine
end

section
/-! PROOFS. Chapter 1, input loss and the timers of acquisition (R4, R15, R17), the format check as an equation
(R7), and frame starts outside the locked states (R5, R6, R8). -/

namespace Sys2Proof.Machine

/-! ### Flags beside a posted record -/

/-- A flag other than QUEUE_OVERRUN may be set before a record is posted or after. -/
theorem Indications.posted_withFlags (i : Indications) (f : CaptureFlags → CaptureFlags) (b : IndBody)
    (stamp : BitVec 32) (hf : ∀ c : CaptureFlags, f { c with queueOverrun := true } =
      { f c with queueOverrun := true }) :
    ({ i with flags := f i.flags } : Indications).posted b stamp =
      { i.posted b stamp with flags := f (i.posted b stamp).flags } := by
  unfold Indications.posted
  dsimp only
  split
  · rfl
  · split
    · rfl
    · rw [hf]

/-! ### Leaving the locked states, in another state (R3) -/

section Leaving

variable (s : State)

theorem Spec.leaving_withInd (i : Indications) :
    Spec.leaving ({ s with ind := i } : State) = { Spec.leaving s with ind := i } := by
  unfold Spec.leaving
  by_cases h : s.acq.state = .locking ∨ s.acq.state = .locked <;> simp only [h, if_true, if_false]

theorem Spec.leaving_withPins (p : Pins) :
    Spec.leaving ({ s with pins := p } : State) = { Spec.leaving s with pins := p } := by
  unfold Spec.leaving
  by_cases h : s.acq.state = .locking ∨ s.acq.state = .locked <;> simp only [h, if_true, if_false]

/-- Registers that the actions on leaving neither read nor write may change before. -/
theorem Spec.leaving_withSize {f : InFrame} (hf : s.acq.frame = some f) (size : Option (Nat × Nat)) :
    Spec.leaving (s.setFrame (some { f with size := size })) =
      (Spec.leaving s).setFrame (some { f with
        size := size
        write := if s.acq.state = .locking ∨ s.acq.state = .locked then none else f.write }) := by
  unfold Spec.leaving State.setFrame
  by_cases h : s.acq.state = .locking ∨ s.acq.state = .locked
  · simp only [h, if_true, hf]
    rfl
  · simp only [h, if_false]

end Leaving

/-! ### Entries to NO_SIGNAL and MEASURING (R4, R5, R15, R16) -/

/-- R5, R8, R15: entry to MEASURING. -/
theorem State.moveTo_measuring (s : State) (window : List FrameRecord) :
    s.moveTo .measuring window = { Spec.leaving s with
      acq := { (Spec.leaving s).acq with
        state := .measuring, window := window, measured := none
        acqTimer := Spec.limitTimer s.acq.controls }
      ind := if s.acq.state = .measuring then s.ind
        else s.ind.posted (.inputState .measuring ⟨0, 0, 0⟩) s.timer.counter } := by
  obtain ⟨_, _, _, _, _, _, _, _, _, _, _, _, _, _, hcontrols⟩ := Spec.leaving_rest s
  have hmoved : Indications.movedTo .measuring s = if s.acq.state = .measuring then s.ind
      else s.ind.posted (.inputState .measuring ⟨0, 0, 0⟩) s.timer.counter := by
    unfold Indications.movedTo
    by_cases h : s.acq.state = .measuring
    · rw [if_pos h.symm, if_pos h]
    · rw [if_neg (Ne.symm h), if_neg h]
      rfl
  rw [s.moveTo_out window rfl, hmoved, Spec.limitTimer, ← AcqLimit.start_eq, ← hcontrols]
  rfl

/-- The entry to MEASURING with the frame in progress named, and with other indications. -/
theorem State.measuring_eq (s : State) (i : Indications) (window : List FrameRecord) (frame : Option InFrame) :
    ((({ s with ind := i } : State).moveTo .measuring window).setFrame frame).retarget =
      Spec.measuring window frame i s := by
  rw [State.moveTo_measuring, Spec.leaving_withInd]
  rfl

/-- R4, R16: entry to NO_SIGNAL through input loss. -/
theorem State.loseInput_eq (s : State) (h : s.acq.state ≠ .noSignal) : s.loseInput.retarget = Spec.lost s := by
  have hflags : s.loseInput = ((State.moveTo .noSignal [] { s with ind := { s.ind with flags := { s.ind.flags with
      inputLost := true
      tornInput := s.ind.flags.tornInput || (s.acq.frame.bind InFrame.write).isSome } } }).setFrame none) := by
    unfold State.loseInput State.writing?
    cases (s.acq.frame.bind InFrame.write).isSome
    · rw [Bool.or_false]
      rfl
    · rw [Bool.or_true]
      rfl
  rw [hflags, State.moveTo_out _ _ rfl, Spec.leaving_withInd, Indications.movedTo, if_neg (Ne.symm h)]
  rfl

theorem Spec.lost_withPins (s : State) (p : Pins) :
    Spec.lost { s with pins := p } = { Spec.lost s with pins := p } := by
  unfold Spec.lost
  rw [Spec.leaving_withPins]
  rfl

/-- R15: the acquisition timer's expiry. -/
theorem State.acquireTimeout_eq (s : State) :
    s.acquireTimeout.retarget = Spec.measuring [] ((Spec.leaving s).acq.frame)
      (Indications.posted (.acquireTimeout s.acq.state) s.timer.counter
        { s.ind with flags := { s.ind.flags with acqTimeout := true } }) s := by
  have hflagged : ((s.post (.acquireTimeout s.acq.state)).flagAcqTimeout) = { s with
      ind := Indications.posted (.acquireTimeout s.acq.state) s.timer.counter
        { s.ind with flags := { s.ind.flags with acqTimeout := true } } } := by
    rw [State.post_eq, Indications.posted_withFlags s.ind (fun f => { f with acqTimeout := true }) _ _
      fun _ => rfl]
    rfl
  rw [State.acquireTimeout, hflagged, State.moveTo_measuring, Spec.leaving_withInd]
  rfl

/-- Settles O54: each event, by the mode and the acquisition state it finds. -/
theorem inputLossAndTimerExpiries : Obligations.InputLossAndTimerExpiries := by
  intro s
  refine ⟨fun hstate => ⟨?guard, fun hmode => ?fall⟩, fun hstate => ?noGuard, fun hignored => ?noFall,
    fun htimer => ?acquire, fun htimer => ?noAcquire, fun htimer => ?hold, fun htimer => ?noHold⟩
  case guard => exact congrArg Host.Outcome.next ((if_neg hstate).trans (s.loseInput_eq hstate))
  case fall =>
    have hacts : ¬ ((s.presentValid false).inputIgnored ||
        decide ((s.presentValid false).acq.state = .noSignal)) = true := by
      simp [State.inputIgnored, hmode, hstate]
    refine congrArg Host.Outcome.next ((if_neg hacts).trans ?_)
    exact ((s.presentValid false).loseInput_eq hstate).trans (Spec.lost_withPins s _)
  case noGuard => exact congrArg Host.Outcome.next (if_pos hstate)
  case noFall =>
    have hignores : ((s.presentValid false).inputIgnored ||
        decide ((s.presentValid false).acq.state = .noSignal)) = true := by
      rcases hignored with h | h <;> simp [State.inputIgnored, h]
    exact congrArg Host.Outcome.next (if_pos hignores)
  case acquire =>
    exact congrArg Host.Outcome.next
      ((if_pos (Option.isSome_iff_ne_none.2 htimer)).trans s.acquireTimeout_eq)
  case noAcquire => exact congrArg Host.Outcome.next (if_neg (by simp [htimer]))
  case hold => exact congrArg Host.Outcome.next (if_pos (Option.isSome_iff_ne_none.2 htimer))
  case noHold => exact congrArg Host.Outcome.next (if_neg (by simp [htimer]))

/-! ### The format check (R7) -/

theorem periodInRange_iff (p : Nat) : periodInRange p = true ↔ Spec.periodFits p := by
  rw [periodInRange, Bool.and_eq_true, decide_eq_true_iff, decide_eq_true_iff]
  rfl

theorem State.sizeFits_iff (s : State) (m : FrameRecord) : s.sizeFits m = true ↔ Spec.sizeFits m s := by
  rw [State.sizeFits, Bool.and_eq_true, decide_eq_true_iff, decide_eq_true_iff]
  rfl

/-- R7: the checks of the format, in their order. -/
theorem Spec.checkedState_eq (m : FrameRecord) (s : State) :
    Spec.checkedState m s =
      if !periodInRange (Spec.targetPeriod m s.acq.controls.cadence) then .unsupported
      else if !s.sizeFits m then .mismatch
      else if s.acq.controls.breakpoint then .awaitAccept else .locking := by
  have hperiod : (!periodInRange (Spec.targetPeriod m s.acq.controls.cadence)) = true ↔
      Spec.targetPeriod m s.acq.controls.cadence < 8000000 ∨
        42000000 < Spec.targetPeriod m s.acq.controls.cadence := by
    rw [Bool.not_eq_true', ← Bool.not_eq_true, periodInRange_iff, Spec.periodFits, not_and_or, Nat.not_le,
      Nat.not_le]
  have hsize : (!s.sizeFits m) = true ↔
      m.width ≠ s.active.scene.canvasW ∨ m.height ≠ s.active.scene.canvasH := by
    rw [Bool.not_eq_true', ← Bool.not_eq_true, s.sizeFits_iff, Spec.sizeFits, not_and_or]
  unfold Spec.checkedState
  simp only [hperiod, hsize]

/-- R7: the format check enters the state that the measured format calls for. -/
theorem State.formatCheck_eq {s : State} {m : FrameRecord} (hm : s.acq.measured = some m) :
    s.formatCheck = (s.setTarget (Spec.targetPeriod m s.acq.controls.cadence)).moveTo (Spec.checkedState m s) [] := by
  have htarget : targetPeriod m.period s.acq.controls.cadence = Spec.targetPeriod m s.acq.controls.cadence := rfl
  have hfits (t : Nat) : (s.setTarget t).sizeFits m = s.sizeFits m := rfl
  have hbreak (t : Nat) : (s.setTarget t).acq.controls.breakpoint = s.acq.controls.breakpoint := rfl
  unfold State.formatCheck
  rw [hm]
  dsimp only
  rw [htarget, hfits, hbreak, Spec.checkedState_eq]
  cases periodInRange (Spec.targetPeriod m s.acq.controls.cadence) with
  | false => rfl
  | true =>
    cases s.sizeFits m with
    | false => rfl
    | true => cases s.acq.controls.breakpoint <;> rfl

/-- R7: the state that a format check leads to is not one of the states before it. -/
theorem Spec.checkedState_cases (m : FrameRecord) (s : State) :
    Spec.checkedState m s = .unsupported ∨ Spec.checkedState m s = .mismatch ∨
      Spec.checkedState m s = .awaitAccept ∨ Spec.checkedState m s = .locking := by
  unfold Spec.checkedState
  split
  · exact .inl rfl
  · split
    · exact .inr (.inl rfl)
    · split
      · exact .inr (.inr (.inl rfl))
      · exact .inr (.inr (.inr rfl))

/-- R7, R11: the format check outside the locked states, of a format just measured or measured before; the
frame in progress takes no part. -/
theorem State.formatCheck_judged (s : State) (m : FrameRecord) (frame : Option InFrame)
    (hstate : s.acq.state.isLocked = false) :
    ((State.formatCheck { s with acq := { s.acq with measured := some m } }).setFrame frame).retarget =
      Spec.judged m { s with acq := { s.acq with frame := frame } } := by
  have hsame (f : Acquisition → Acquisition) (hcontrols : (f s.acq).controls = s.acq.controls) :
      Spec.checkedState m { s with acq := f s.acq } = Spec.checkedState m s := by
    unfold Spec.checkedState
    rw [hcontrols]
    rfl
  have hmeasured := hsame (fun a => { a with measured := some m }) rfl
  have hframed := hsame (fun a => { a with frame := frame }) rfl
  rw [State.formatCheck_eq (m := m) rfl, hmeasured]
  unfold Spec.judged
  rw [hframed]
  rcases Spec.checkedState_cases m s with h | h | h | h
  · rw [h, State.moveTo_out _ _ rfl, Spec.leaving_of_unlocked (by exact hstate)]
    rfl
  · rw [h, State.moveTo_out _ _ rfl, Spec.leaving_of_unlocked (by exact hstate)]
    rfl
  · rw [h, State.moveTo_out _ _ rfl, Spec.leaving_of_unlocked (by exact hstate)]
    rfl
  · rw [h, State.moveTo_in _ _ rfl, Acquisition.enter, AcqLimit.start_eq]
    simp only [State.setTarget, hstate, and_self, if_true]
    rfl

/-! ### The measurement window (R6) -/

theorem FrameRecord.matches_iff (ref r : FrameRecord) : ref.matches r = true ↔ Spec.fits ref r := by
  rw [FrameRecord.matches, Bool.and_eq_true, Bool.and_eq_true, decide_eq_true_iff, decide_eq_true_iff,
    decide_eq_true_iff, Spec.fits, and_assoc, distance]
  refine and_congr_right' (and_congr_right' ?_)
  omega

/-- R6: the window after a record, or after a cut-short frame. -/
theorem Spec.Window.eq {before after : List FrameRecord} {r : Option FrameRecord}
    (h : Spec.Window before r after) : after = r.elim [] (addRecord before) := by
  rcases h with ⟨rfl, rfl⟩ | ⟨x, rfl, ⟨rfl, rfl⟩ | ⟨ref, rest, rfl, ⟨hfits, rfl⟩ | ⟨hfits, rfl⟩⟩⟩
  · rfl
  · rfl
  · exact (if_pos ((ref.matches_iff x).2 hfits)).symm
  · exact (if_neg (mt (ref.matches_iff x).1 hfits)).symm

theorem windowFormat_of_length {window : List FrameRecord} (h : window.length ≠ 4) :
    windowFormat window = none := by
  unfold windowFormat
  split
  · exact absurd rfl h
  · rfl

/-! ### Frame starts outside the locked states (R1, R5, R6, R8) -/

theorem exec_inputFrameStart_ignored (s : State) (time : Nat) (env : Env) {valid : Bool}
    (h : s.mode.mode = .standby ∨ valid = false) :
    exec (.inputFrameStart valid time env) s =
      .next { s with pins := { s.pins with inputValid := valid } } := by
  refine congrArg Host.Outcome.next (if_pos ?_)
  rcases h with h | rfl
  · simp [State.inputIgnored, h]
  · exact Bool.or_true _

theorem exec_inputFrameStart (s : State) (time : Nat) (env : Env) (h : s.mode.mode ≠ .standby) :
    exec (.inputFrameStart true time env) s = .next ((Spec.valid s).inputStart time env).retarget := by
  refine congrArg Host.Outcome.next (if_neg ?_)
  simp [State.inputIgnored, State.presentValid, h]

/-- R4: with the frame before begun at most 50 ms ago, the guard has not expired. -/
theorem State.guardBefore_eq_self {s : State} {time : Nat}
    (h : ∀ f, s.acq.frame = some f → time ≤ f.start + 50000000) : s.guardBefore time = s := by
  unfold State.guardBefore
  cases hframe : s.acq.frame with
  | none => rfl
  | some f =>
    have hsoon : ¬ (f.start + Config.guardLimit < time) := Nat.not_lt.2 (h f hframe)
    exact if_neg fun hlate => hsoon hlate.2

section Outside

variable {s : State} {time : Nat} {env : Env}

/-- R5: a frame start in NO_SIGNAL. -/
theorem State.inputStart_of_noSignal (h : s.acq.state = .noSignal) :
    (s.inputStart time env).retarget = Spec.measuring [] (some ⟨time, none, none⟩) s.ind s := by
  have hguard : s.guardBefore time = s := by
    unfold State.guardBefore
    split
    · rfl
    · exact if_neg fun hlate => hlate.1 h
  rw [State.inputStart, hguard, h]
  exact s.measuring_eq s.ind [] (some ⟨time, none, none⟩)

/-- The record of the frame before is taken by the state it finds. -/
theorem State.inputStart_of_outside (hguard : s.guardBefore time = s) (hstate : s.acq.state.isLocked = false)
    (hsignal : s.acq.state ≠ .noSignal) :
    s.inputStart time env =
      (s.takeRecord (s.acq.frame.bind fun f => f.record time)).setFrame (some ⟨time, none, none⟩) := by
  rw [State.inputStart, hguard]
  cases hs : s.acq.state with
  | noSignal => exact absurd hs hsignal
  | locking | locked => rw [hs] at hstate; cases hstate
  | measuring | unsupported | mismatch | awaitAccept => rfl

/-- R6: the record in MEASURING: the window, and the format check once it is full. -/
theorem State.takeRecord_of_measuring (h : s.acq.state = .measuring) (r : Option FrameRecord) :
    s.takeRecord r = match windowFormat (r.elim [] (addRecord s.acq.window)) with
      | none => { s with acq := { s.acq with window := r.elim [] (addRecord s.acq.window) } }
      | some m => State.formatCheck { s with acq := { s.acq with
          window := r.elim [] (addRecord s.acq.window), measured := some m } } := by
  unfold State.takeRecord
  rw [h]
  cases r <;> rfl

/-- R8: the record in UNSUPPORTED, MISMATCH and AWAIT_ACCEPT. -/
theorem State.takeRecord_of_measured
    (h : s.acq.state = .unsupported ∨ s.acq.state = .mismatch ∨ s.acq.state = .awaitAccept) {m : FrameRecord}
    (hm : s.acq.measured = some m) (r : Option FrameRecord) :
    s.takeRecord r = match r with
      | none => s.moveTo .measuring []
      | some r => if m.matches r then s else s.moveTo .measuring [r] := by
  unfold State.takeRecord
  rw [hm]
  rcases h with h | h | h <;> rw [h] <;> cases r <;> rfl

end Outside

/-- Settles O55: the start is ignored, or is taken by the acquisition state with the record of the frame
before. -/
theorem frameStartOutsideLocked : Obligations.FrameStartOutsideLocked := by
  intro s time env
  refine ⟨fun valid h => exec_inputFrameStart_ignored s time env h, fun hmode => ?_⟩
  rw [exec_inputFrameStart s time env hmode]
  refine ⟨fun hstate => ?_, fun f hf hsoon => ?_⟩
  · exact congrArg Host.Outcome.next (State.inputStart_of_noSignal (s := Spec.valid s) hstate)
  have hguard : (Spec.valid s).guardBefore time = Spec.valid s :=
    State.guardBefore_eq_self (s := Spec.valid s) fun g hg => by
      obtain rfl : f = g := Option.some.inj (hf.symm.trans hg)
      exact hsoon
  have hbefore : ((Spec.valid s).acq.frame.bind fun f => f.record time) =
      f.size.map fun z => ⟨z.1, z.2, time - f.start⟩ := by
    rw [show (Spec.valid s).acq.frame = some f from hf]
    rfl
  refine ⟨fun hstate window hwindow => ?_, fun hstate m hm => ?_⟩
  · have hstart := State.inputStart_of_outside (env := env) hguard
      (by rw [show (Spec.valid s).acq.state = _ from hstate]; rfl)
      (by rw [show (Spec.valid s).acq.state = _ from hstate]; decide)
    rw [hstart, hbefore, State.takeRecord_of_measuring (s := Spec.valid s) hstate]
    have hsame : (Spec.valid s).acq.window = s.acq.window := rfl
    rw [hsame, ← Spec.Window.eq hwindow]
    refine ⟨fun hlength => ?_, fun a b c d hfull => ?_⟩
    · rw [windowFormat_of_length hlength]
      rfl
    · subst hfull
      have hunlocked : (Spec.valid s).acq.state.isLocked = false := by
        rw [show (Spec.valid s).acq.state = _ from hstate]
        rfl
      exact congrArg Host.Outcome.next (State.formatCheck_judged
        { Spec.valid s with acq := { s.acq with window := [a, b, c, d] } }
        ⟨a.width, a.height, (a.period + b.period + c.period + d.period + 2) / 4⟩ (some ⟨time, none, none⟩)
        hunlocked)
  · have hstart := State.inputStart_of_outside (env := env) hguard
      (by rcases hstate with h | h | h <;> rw [show (Spec.valid s).acq.state = _ from h] <;> rfl)
      (by rcases hstate with h | h | h <;> rw [show (Spec.valid s).acq.state = _ from h] <;> decide)
    rw [hstart, hbefore]
    refine ⟨fun hsize => ?_, fun z hsize => ⟨fun hfits => ?_, fun hfits => ?_⟩⟩
    · rw [hsize, State.takeRecord_of_measured (s := Spec.valid s) hstate hm]
      exact congrArg Host.Outcome.next ((Spec.valid s).measuring_eq s.ind [] _)
    · rw [hsize, State.takeRecord_of_measured (s := Spec.valid s) hstate hm]
      refine congrArg Host.Outcome.next (Eq.trans ?_ ((Spec.valid s).measuring_eq s.ind _ _))
      exact congrArg (fun t => (State.setFrame _ t).retarget) (if_neg (mt (m.matches_iff _).1 hfits))
    · rw [hsize, State.takeRecord_of_measured (s := Spec.valid s) hstate hm]
      exact congrArg (fun t => Host.Outcome.next (State.setFrame _ t).retarget)
        (if_pos ((m.matches_iff _).2 hfits))

end Sys2Proof.Machine
end

section
/-! PROOFS. Chapter 1, SET_INPUT_CONTROL (R18, R15), and the input frame end with the picture it stores (R24, R25,
R85). -/

namespace Sys2Proof.Machine

/-! ### The input controls of a body (R18, R176) -/

theorem limit?_eq_some_iff (v : Nat) (l : AcqLimit) : limit? v = some l ↔ v = l.code := by
  unfold limit?
  split <;> cases l <;> simp_all [AcqLimit.code]

theorem cadence?_eq_some_iff (v : Nat) (c : Cadence) : cadence? v = some c ↔ v = c.code := by
  unfold cadence?
  split <;> cases c <;> simp_all [Cadence.code]

/-- R18: the controls that a body gives over the present ones; none where a carried value is out of its list. -/
def InputControls.withBody (c : InputControls) (body : List Byte) : Option InputControls :=
  (carried (mark (byteAt body 0) 0) (onOff? (byteAt body 1)) c.breakpoint).bind fun breakpoint =>
    (carried (mark (byteAt body 0) 1) (limit? (byteAt body 2)) c.limit).bind fun limit =>
      (carried (mark (byteAt body 0) 2) (cadence? (byteAt body 3)) c.cadence).map fun cadence =>
        ⟨breakpoint, limit, cadence,
          if mark (byteAt body 0) 3 then clamp 0 Config.maxHold (u16At body 4) else c.hold⟩

theorem InputControls.withBody_eq_some_iff (c new : InputControls) (body : List Byte) :
    c.withBody body = some new ↔ Spec.inputControls body c new := by
  unfold Spec.inputControls
  simp only [ite_eq_iff_eq_ite, ← onOff?_eq_some_iff, ← limit?_eq_some_iff, ← cadence?_eq_some_iff]
  simp only [← carried_eq_some_iff]
  unfold InputControls.withBody
  have hhold : clamp 0 Config.maxHold (u16At body 4) = min (u16At body 4) 10000 := by
    rw [clamp_eq_max_min (by decide), Nat.zero_max, Nat.min_comm, Config.maxHold]
  simp only [hhold, mark, Option.bind_eq_some_iff, Option.map_eq_some_iff]
  obtain ⟨breakpoint, limit, cadence, hold⟩ := new
  simp only [InputControls.mk.injEq]
  constructor
  · rintro ⟨_, hbreak, _, hlimit, _, hcadence, rfl, rfl, rfl, rfl⟩
    exact ⟨hbreak, hlimit, hcadence, rfl⟩
  · rintro ⟨hbreak, hlimit, hcadence, rfl⟩
    exact ⟨_, hbreak, _, hlimit, _, hcadence, rfl, rfl, rfl, rfl⟩

/-- R18: the request's rule, by the controls that its body gives. -/
theorem actSetInputControl_eq (body : List Byte) (s : State) :
    actSetInputControl body s = (s.acq.controls.withBody body).elim (s.refuse .badArgument) fun new =>
      (s.applyInputControls new).retarget.answer
        (okOr (mark (byteAt body 0) 3 && clamps 0 Config.maxHold (u16At body 4)))
        (s.acq.controls.previous (byteAt body 0)) := by
  unfold actSetInputControl InputControls.withBody
  dsimp only
  cases carried (mark (byteAt body 0) 0) (onOff? (byteAt body 1)) s.acq.controls.breakpoint with
  | none => rfl
  | some breakpoint =>
    cases carried (mark (byteAt body 0) 1) (limit? (byteAt body 2)) s.acq.controls.limit with
    | none => rfl
    | some limit =>
      cases carried (mark (byteAt body 0) 2) (cadence? (byteAt body 3)) s.acq.controls.cadence <;> rfl

/-- R177: the previous values, field by field. -/
theorem InputControls.previous_eq (c : InputControls) (marks : Nat) :
    c.previous marks = BitVec.ofNat 8 marks ::
      ((if marks.testBit 0 then [if c.breakpoint then 1 else 0] else [0]) ++
      (if marks.testBit 1 then [BitVec.ofNat 8 c.limit.code] else [0]) ++
      (if marks.testBit 2 then [BitVec.ofNat 8 c.cadence.code] else [0]) ++
      (if marks.testBit 3 then b16 c.hold else [0, 0])) := by
  have hbreak : b8 (prior (marks.testBit 0) (boolCode c.breakpoint)) =
      if marks.testBit 0 then [if c.breakpoint then 1 else 0] else [0] := by
    cases marks.testBit 0 <;> cases c.breakpoint <;> rfl
  have hcode (marked : Bool) (v : Nat) : b8 (prior marked v) = if marked then [BitVec.ofNat 8 v] else [0] := by
    cases marked <;> rfl
  rw [InputControls.previous, mark, mark, mark, mark, hbreak, hcode, hcode, b16_prior]
  rfl

/-- R15: what a new limit does to the acquisition timer. -/
theorem limitChange_eq (old new : AcqLimit) (a : Acquisition) :
    limitChange old new a.state a.acqTimer = Spec.limitChange old new a := by
  unfold limitChange Spec.limitChange
  by_cases hnew : new = .off
  · rw [if_pos hnew, if_pos hnew]
  · rw [if_neg hnew, if_neg hnew, AcqLimit.start_eq, if_neg hnew]
    simp only [Bool.and_eq_true, Bool.or_eq_true, decide_eq_true_eq]

/-! ### How the controls act, by the acquisition state (R18) -/

section Apply

variable {s : State} {new : InputControls}

/-- R18 steps 3 and 4, with the controls written and the timer acted on. -/
theorem State.applyInputControls_eq (s : State) (new : InputControls) :
    s.applyInputControls new = match s.acq.state with
      | .noSignal => Spec.controlled new s
      | .measuring => Spec.controlled new s
      | .unsupported => if decide (s.acq.controls.cadence ≠ new.cadence) then
          (Spec.controlled new s).formatCheck else Spec.controlled new s
      | .mismatch => if decide (s.acq.controls.cadence ≠ new.cadence) then
          (Spec.controlled new s).formatCheck else Spec.controlled new s
      | .awaitAccept =>
        if decide (s.acq.controls.cadence ≠ new.cadence) || (s.acq.controls.breakpoint && !new.breakpoint) then
          (Spec.controlled new s).formatCheck else Spec.controlled new s
      | .locking => if decide (s.acq.controls.cadence ≠ new.cadence) then
          (Spec.controlled new s).recadence else Spec.controlled new s
      | .locked => if decide (s.acq.controls.cadence ≠ new.cadence) then
          (Spec.controlled new s).recadence else Spec.controlled new s := by
  unfold Spec.controlled
  rw [← limitChange_eq]
  rfl

theorem State.applyInputControls_kept (h : s.acq.state = .noSignal ∨ s.acq.state = .measuring ∨
    new.cadence = s.acq.controls.cadence ∧
      ¬ (s.acq.state = .awaitAccept ∧ s.acq.controls.breakpoint = true ∧ new.breakpoint = false)) :
    s.applyInputControls new = Spec.controlled new s := by
  rw [State.applyInputControls_eq]
  rcases h with h | h | ⟨hcadence, hbreak⟩
  · rw [h]
  · rw [h]
  · have hsame : decide (s.acq.controls.cadence ≠ new.cadence) = false := by simp [hcadence]
    rw [hsame]
    cases hstate : s.acq.state with
    | awaitAccept =>
      have hstays : (s.acq.controls.breakpoint && !new.breakpoint) = false := by
        rw [← Bool.not_eq_true, Bool.and_eq_true, Bool.not_eq_true']
        exact fun h => hbreak ⟨hstate, h⟩
      rw [hstays]
      rfl
    | noSignal | measuring | unsupported | mismatch | locking | locked => rfl

theorem State.applyInputControls_checked
    (h : s.acq.state = .unsupported ∨ s.acq.state = .mismatch ∨ s.acq.state = .awaitAccept)
    (hacts : new.cadence ≠ s.acq.controls.cadence ∨
      s.acq.state = .awaitAccept ∧ s.acq.controls.breakpoint = true ∧ new.breakpoint = false) :
    s.applyInputControls new = (Spec.controlled new s).formatCheck := by
  rw [State.applyInputControls_eq]
  rcases hacts with hcadence | ⟨hstate, hold, hnew⟩
  · have hother : decide (s.acq.controls.cadence ≠ new.cadence) = true := by simpa using Ne.symm hcadence
    rw [hother]
    rcases h with h | h | h <;> rw [h] <;> rfl
  · rw [hstate, hold, hnew, Bool.not_false, Bool.and_self, Bool.or_true]
    rfl

theorem State.applyInputControls_recadenced (h : s.acq.state = .locking ∨ s.acq.state = .locked)
    (hcadence : new.cadence ≠ s.acq.controls.cadence) :
    s.applyInputControls new = (Spec.controlled new s).recadence := by
  have hother : decide (s.acq.controls.cadence ≠ new.cadence) = true := by simpa using Ne.symm hcadence
  rw [State.applyInputControls_eq, hother]
  rcases h with h | h <;> rw [h] <;> rfl

end Apply

theorem State.with_measured {s : State} {m : FrameRecord} (hm : s.acq.measured = some m) :
    ({ s with acq := { s.acq with measured := some m } } : State) = s := by
  rw [← hm]

/-- R7: the format check runs again for a format measured before. -/
theorem State.formatCheck_again {s : State} {m : FrameRecord} (hm : s.acq.measured = some m)
    (hstate : s.acq.state.isLocked = false) : s.formatCheck.retarget = Spec.judged m s := by
  have hchecked := s.formatCheck_judged m s.formatCheck.acq.frame hstate
  rw [State.with_measured hm] at hchecked
  have hframe : s.formatCheck.acq.frame = s.acq.frame := by
    rw [State.formatCheck_eq hm]
    rcases Spec.checkedState_cases m s with h | h | h | h
    · rw [h, State.moveTo_out _ _ rfl, Spec.leaving_of_unlocked (by exact hstate)]
      rfl
    · rw [h, State.moveTo_out _ _ rfl, Spec.leaving_of_unlocked (by exact hstate)]
      rfl
    · rw [h, State.moveTo_out _ _ rfl, Spec.leaving_of_unlocked (by exact hstate)]
      rfl
    · rw [h, State.moveTo_in _ _ rfl]
      rfl
  have hself : s.formatCheck.setFrame s.formatCheck.acq.frame = s.formatCheck := rfl
  rw [hself, hframe] at hchecked
  exact hchecked

theorem Spec.leaving_setTarget (s : State) (t : Nat) :
    Spec.leaving (s.setTarget t) = (Spec.leaving s).setTarget t := by
  unfold Spec.leaving State.setTarget
  by_cases h : s.acq.state = .locking ∨ s.acq.state = .locked <;> simp only [h, if_true, if_false]

section Recadence

variable {s : State} {m : FrameRecord}

/-- R18: a cadence change in a locked state, by the range of the new target. -/
theorem State.recadence_eq (hm : s.acq.measured = some m) :
    s.recadence = if periodInRange (Spec.targetPeriod m s.acq.controls.cadence) = true then
        (s.setTarget (Spec.targetPeriod m s.acq.controls.cadence)).moveTo .locking []
      else (s.setTarget (Spec.targetPeriod m s.acq.controls.cadence)).moveTo .unsupported [] := by
  unfold State.recadence
  rw [hm]
  rfl

theorem State.recadence_relocked (hm : s.acq.measured = some m)
    (hlocked : s.acq.state = .locking ∨ s.acq.state = .locked)
    (hfits : Spec.periodFits (Spec.targetPeriod m s.acq.controls.cadence)) :
    s.recadence.retarget = Spec.relocked (Spec.targetPeriod m s.acq.controls.cadence) m s := by
  have hstays : s.acq.state.isLocked = true := (AcqState.isLocked_eq_true _).2 hlocked
  have hmoved : Indications.movedTo .locking (s.setTarget (Spec.targetPeriod m s.acq.controls.cadence)) =
      if s.acq.state = .locking then s.ind
      else s.ind.posted (.inputState .locking m) s.timer.counter := by
    unfold Indications.movedTo State.setTarget
    simp only [hm]
    by_cases h : s.acq.state = .locking
    · rw [if_pos h, if_pos h.symm]
    · rw [if_neg h, if_neg (Ne.symm h)]
      rfl
  rw [State.recadence_eq hm, if_pos ((periodInRange_iff _).2 hfits), State.moveTo_in _ _ rfl, hmoved,
    Acquisition.enter, AcqLimit.start_eq]
  simp only [State.setTarget, hstays, Bool.true_eq_false, and_false, if_false]
  rfl

theorem State.recadence_unsupported (hm : s.acq.measured = some m)
    (hlocked : s.acq.state = .locking ∨ s.acq.state = .locked)
    (hfits : ¬ Spec.periodFits (Spec.targetPeriod m s.acq.controls.cadence)) :
    s.recadence.retarget = Spec.unsupported (Spec.targetPeriod m s.acq.controls.cadence) m s := by
  have hmoved : Indications.movedTo .unsupported (s.setTarget (Spec.targetPeriod m s.acq.controls.cadence)) =
      s.ind.posted (.inputState .unsupported m) s.timer.counter := by
    have hother : AcqState.unsupported ≠ s.acq.state := by rcases hlocked with h | h <;> rw [h] <;> decide
    unfold Indications.movedTo State.setTarget
    simp only [hm, hother, if_false]
    rfl
  rw [State.recadence_eq hm, if_neg (mt (periodInRange_iff _).1 hfits), State.moveTo_out _ _ rfl, hmoved,
    Spec.leaving_setTarget]
  rfl

end Recadence

/-! ### SET_INPUT_CONTROL (R18) -/

/-- The rule acts as it would with no request handled, and its reply is the request's. -/
theorem actSetInputControl_handlingOf (s : State) (f : Frame) (body : List Byte) :
    actSetInputControl body (s.handlingOf f) =
      (s.acq.controls.withBody body).elim (s.replied f .badArgument []) fun new =>
        { (s.applyInputControls new).retarget with
          link := (s.replied f (okOr (mark (byteAt body 0) 3 && clamps 0 Config.maxHold (u16At body 4)))
            (s.acq.controls.previous (byteAt body 0))).link } := by
  have hcontrols : (s.handlingOf f).acq.controls = s.acq.controls := rfl
  have happly (new : InputControls) : (s.handlingOf f).applyInputControls new =
      (s.applyInputControls new).withLink (s.handlingOf f).link :=
    s.withLink_applyInputControls (s.handlingOf f).link new
  rw [actSetInputControl_eq, hcontrols]
  cases s.acq.controls.withBody body with
  | none => rfl
  | some new =>
    simp only [Option.elim, happly]
    rfl

/-- Settles O26: the rule sets the controls that the body gives, which act by the acquisition state. -/
theorem setInputControlSetsAndActs : Obligations.SetInputControlSetsAndActs := by
  intro s tag body hfree hstarted hlength
  have hpassed : exec (.setInputControl tag body) s =
      .next (actSetInputControl body (s.handlingOf ⟨0x10, tag, body⟩)) :=
    congrArg Host.Outcome.next
      (State.submit_started _ (actSetInputControl body) hfree hstarted (decide_eq_true hlength))
  rw [hpassed, actSetInputControl_handlingOf]
  refine ⟨fun hnone => ?_, fun new hnew => ?_⟩
  · have hrefused : s.acq.controls.withBody body = none :=
      Option.eq_none_iff_forall_ne_some.2 fun new h =>
        hnone ⟨new, (InputControls.withBody_eq_some_iff _ _ _).1 h⟩
    rw [hrefused]
    rfl
  rw [(InputControls.withBody_eq_some_iff _ _ _).2 hnew, Option.elim_some]
  have hwork := acqWork_applyInputControls s new
  have hkept := hwork.eq
  have hsteady := hwork.steady_eq
  refine ⟨_, rfl, ?controls, rfl, ?reply, fun h => ?kept, fun m hm => ⟨fun h hacts => ?checked,
    fun h hcadence => ⟨fun hfits => ?relocked, fun hfits => ?unsupported⟩⟩, ?pins, ?chans, ?banks, ?profiles,
    ?mode, ?probe, ?free, ?mem⟩
  case controls => exact (congrArg Steady.controls hsteady :)
  case reply =>
    have hclamped : okOr (mark (byteAt body 0) 3 && clamps 0 Config.maxHold (u16At body 4)) =
        if (byteAt body 0).testBit 3 ∧ 10000 < u16At body 4 then .clamped else .ok := by
      rw [okOr_marked_clamps]
      simp only [Nat.not_lt_zero, false_or]
      rfl
    rw [hclamped, InputControls.previous_eq]
  case kept => rw [State.applyInputControls_kept h]
  case checked =>
    have hunlocked : (Spec.controlled new s).acq.state.isLocked = false := by
      show s.acq.state.isLocked = false
      rcases h with h | h | h <;> rw [h] <;> rfl
    rw [State.applyInputControls_checked h hacts, State.formatCheck_again (by exact hm) hunlocked]
  case relocked =>
    rw [State.applyInputControls_recadenced h hcadence,
      State.recadence_relocked (s := Spec.controlled new s) hm h hfits]
    rfl
  case unsupported =>
    rw [State.applyInputControls_recadenced h hcadence,
      State.recadence_unsupported (s := Spec.controlled new s) hm h hfits]
    rfl
  case mem => exact (congrArg Steady.mem hsteady :)
  case pins => exact (congrArg State.pins hkept :)
  case chans => exact (congrArg State.chans hkept :)
  case banks => exact (congrArg State.banks hkept :)
  case profiles => exact (congrArg State.profiles hkept :)
  case mode => exact (congrArg State.mode hkept :)
  case probe => exact (congrArg State.probe hkept :)
  case free => exact (congrArg State.free hkept :)

/-! ### The picture of an input frame (R24, R85, log 8) -/

theorem pixelKey_inj {x y x' y' : Nat} (hx : x < 4096) (hx' : x' < 4096) :
    pixelKey x y = pixelKey x' y' ↔ x = x' ∧ y = y' := by
  unfold pixelKey
  omega

/-- The last pixel listed at a position is the one read there. -/
theorem read_foldl_write (table : List Nat) {x y : Nat} (hx : x < 4096) (p : Picture) (hp : p.wf = true)
    (l : List (Nat × Nat × InputPixel)) (hl : ∀ q ∈ l, q.1 < 4096) :
    (l.foldl (fun pic q => pic.write (pixelKey q.1 q.2.1) (decodePixel table q.2.2)) p).read (pixelKey x y) =
      ((l.reverse.find? fun q => decide (q.1 = x ∧ q.2.1 = y)).map fun q => decodePixel table q.2.2).getD
        (p.read (pixelKey x y)) := by
  induction l using List.reverseRecOn with
  | nil => rfl
  | append_singleton l q ih =>
    have hq := hl q (by simp)
    have hbefore := ih fun r hr => hl r (List.mem_append_left _ hr)
    rw [List.foldl_append, List.foldl_cons, List.foldl_nil, Picture.read_write _ _ _ _ (foldl_write_wf l table p hp),
      hbefore, List.reverse_append, List.reverse_singleton, List.singleton_append, List.find?_cons]
    by_cases hat : q.1 = x ∧ q.2.1 = y
    · have hkey : pixelKey x y = pixelKey q.1 q.2.1 := (pixelKey_inj hx hq).2 ⟨hat.1.symm, hat.2.symm⟩
      simp [hkey, hat]
    · have hkey : pixelKey x y ≠ pixelKey q.1 q.2.1 := fun h =>
        hat (((pixelKey_inj hx hq).1 h).imp Eq.symm Eq.symm)
      simp [hkey, hat]

/-- A position on a frame's active lines lies within the widest of them. -/
theorem lt_of_lt_getD {lines : List Nat} {w : Nat} (h : ∀ v ∈ lines, v ≤ w) {x y : Nat}
    (hx : x < lines.getD y 0) : x < w := by
  rw [List.getD_eq_getElem?_getD] at hx
  cases hy : lines[y]? with
  | none =>
    rw [hy] at hx
    exact absurd hx (Nat.not_lt_zero x)
  | some v =>
    rw [hy] at hx
    exact hx.trans_le (h v (List.mem_of_getElem? hy))

theorem convertFrame_read {frame : InputFrame} (table : List Nat) {x y : Nat} (hwell : frame.wellFormed = true)
    (hlines : ∀ w ∈ frame.lines, w ≤ 4096) (hx : x < frame.lines.getD y 0) :
    (convertFrame frame table).read (pixelKey x y) =
      ((frame.pixels.reverse.find? fun q => decide (q.1 = x ∧ q.2.1 = y)).map fun q =>
        decodePixel table q.2.2).getD (decodePixel table frame.background) := by
  have hon : ∀ q ∈ frame.pixels, q.1 < frame.lines.getD q.2.1 0 := by
    simpa [InputFrame.wellFormed] using hwell
  have hall : frame.pixels.filter (fun q => onFrame frame q.1 q.2.1) = frame.pixels :=
    List.filter_eq_self.2 fun q hq => decide_eq_true (hon q hq)
  rw [convertFrame, hall]
  exact read_foldl_write table (lt_of_lt_getD hlines hx) ⟨decodePixel table frame.background, []⟩ rfl
    frame.pixels fun q hq => lt_of_lt_getD hlines (hon q hq)

/-! ### The input frame end (R25) -/

theorem exec_inputFrameEnd_ignored (s : State) (frame : InputFrame) {valid : Bool}
    (h : s.mode.mode = .standby ∨ valid = false) :
    exec (.inputFrameEnd valid frame) s = .next { s with pins := { s.pins with inputValid := valid } } := by
  refine congrArg Host.Outcome.next (if_pos ?_)
  rcases h with h | rfl
  · simp [State.inputIgnored, h]
  · exact Bool.or_true _

theorem exec_inputFrameEnd {s : State} (frame : InputFrame) (hmode : s.mode.mode ≠ .standby)
    (hvalid : s.pins.inputValid = true) :
    exec (.inputFrameEnd true frame) s = .next (s.inputEnd frame).retarget := by
  have hpresent : s.presentValid true = s := by
    rw [State.presentValid, ← hvalid]
  have hacts : ¬ (s.inputIgnored || !s.pins.inputValid) = true := by simp [State.inputIgnored, hmode, hvalid]
  show Host.Outcome.next (if ((s.presentValid true).inputIgnored || !(s.presentValid true).pins.inputValid) = true
    then s.presentValid true else ((s.presentValid true).inputEnd frame).retarget) = _
  rw [hpresent, if_neg hacts]

section InputEnd

variable {s : State} {f : InFrame} (frame : InputFrame) (hf : s.acq.frame = some f) (hsize : f.size = none)
include hf hsize

theorem State.inputEnd_of_unwritten (hwrite : f.write = none) :
    s.inputEnd frame = s.setFrame (some { f with size := some (activeSize frame) }) := by
  unfold State.inputEnd
  rw [hf]
  dsimp only
  rw [hsize, hwrite]
  rfl

theorem State.inputEnd_of_good {w : FrameWrite} (hwrite : f.write = some w)
    (hfits : s.acq.measured.map (fun m => (m.width, m.height)) = some (activeSize frame)) :
    s.inputEnd frame =
      (s.setFrame (some { f with size := some (activeSize frame) })).completeWrite w frame := by
  unfold State.inputEnd
  rw [hf]
  dsimp only
  rw [hsize, hwrite]
  exact if_pos hfits

theorem State.inputEnd_of_torn {w : FrameWrite} (hwrite : f.write = some w)
    (hfits : s.acq.measured.map (fun m => (m.width, m.height)) ≠ some (activeSize frame)) :
    s.inputEnd frame = (s.setFrame (some { f with size := some (activeSize frame) })).tearFrame := by
  unfold State.inputEnd
  rw [hf]
  dsimp only
  rw [hsize, hwrite]
  exact if_neg hfits

end InputEnd

/-- R16: a written frame that ends with another size is torn. -/
theorem State.tearFrame_ended {s : State} {f : InFrame} (hf : s.acq.frame = some f) (size : Nat × Nat)
    (hlocked : s.acq.state = .locking ∨ s.acq.state = .locked) :
    (s.setFrame (some { f with size := some size })).tearFrame.retarget =
      Spec.measuring [] (some { f with size := some size, write := none })
        { s.ind with flags := { s.ind.flags with tornInput := true } } s := by
  have hleft := Spec.leaving_withSize s hf (some size)
  rw [if_pos hlocked] at hleft
  have htorn := (s.setFrame (some { f with size := some size })).measuring_eq
    { s.ind with flags := { s.ind.flags with tornInput := true } } []
    (some { f with size := some size, write := none })
  have hkept : (s.setFrame (some { f with size := some size })).tearFrame.acq.frame =
      some { f with size := some size, write := none } := by
    have hframe := congrArg (fun t : State => t.acq.frame) hleft
    rw [State.tearFrame, State.flagTorn, State.setFlags, State.moveTo_measuring, Spec.leaving_withInd]
    exact hframe
  have hself : (s.setFrame (some { f with size := some size })).tearFrame.setFrame
      (some { f with size := some size, write := none }) =
        (s.setFrame (some { f with size := some size })).tearFrame := by
    rw [← hkept]
    rfl
  have hends : (s.setFrame (some { f with size := some size })).tearFrame.retarget =
      Spec.measuring [] (some { f with size := some size, write := none })
        { s.ind with flags := { s.ind.flags with tornInput := true } }
        (s.setFrame (some { f with size := some size })) := by
    rw [← hself]
    exact htorn
  rw [hends]
  unfold Spec.measuring
  rw [hleft]
  rfl

/-- Settles O57: the end of a frame by its write and its size; the picture stored holds, at each position, the
last pixel listed there. -/
theorem frameEndCompletesTheBuffer : Obligations.FrameEndCompletesTheBuffer := by
  refine ⟨fun s frame f hmode hvalid hf hsize => ⟨fun hwrite => ?_, fun w hwrite => ⟨fun hfits n v hbuf => ?_,
    fun hlocked hfits => ?_⟩⟩, fun s frame valid h => exec_inputFrameEnd_ignored s frame h,
    fun frame table x y hwell hlines hx => ?_⟩
  · rw [exec_inputFrameEnd frame hmode hvalid, State.inputEnd_of_unwritten frame hf hsize hwrite]
    rfl
  · have hfinish : (s.frames.bufs.get w.buf).finish = .complete n v := by
      rw [hbuf]
      rfl
    rw [exec_inputFrameEnd frame hmode hvalid, State.inputEnd_of_good frame hf hsize hwrite hfits, ← hfinish]
    rfl
  · rw [exec_inputFrameEnd frame hmode hvalid, State.inputEnd_of_torn frame hf hsize hwrite hfits,
      State.tearFrame_ended hf _ hlocked]
  · rw [convertFrame_read table hwell hlines hx]
    cases frame.pixels.reverse.find? fun q => decide (q.1 = x ∧ q.2.1 = y) <;> rfl

end Sys2Proof.Machine
end

section
/-! PROOFS. Chapter 2, a presentation frame start as a walk over its takers (R35, log 2); Chapter 8, WAKE and
WAKE_N (R166, R168). -/

namespace Sys2Proof.Machine

/-! ### A start as a walk over its takers -/

/-- The takers take the start in turn, the master target following after each (R39). -/
def State.takes (align : Bool) (order : List Taker) (s : State) : State :=
  order.foldl (fun s t => (s.take align t).retarget) s

/-- The links are sampled before any taker takes the start. -/
def State.linked (env : Env) (s : State) : State := { s with pins := { s.pins with linkGood := env.link } }

theorem State.deliver_eq (s : State) (align : Bool) (env : Env) :
    s.deliver align env = ((s.linked env).takes align (takeOrder env.order)).probeServe := rfl

theorem State.takes_cons (s : State) (align : Bool) (t : Taker) (ts : List Taker) :
    s.takes align (t :: ts) = ((s.take align t).retarget).takes align ts := rfl

theorem State.takes_append (s : State) (align : Bool) (ts us : List Taker) :
    s.takes align (ts ++ us) = (s.takes align ts).takes align us :=
  List.foldl_append

/-- What every taker of the list keeps, the walk keeps. -/
theorem State.takes_keep {P : State → Prop} {align : Bool} {order : List Taker} {s : State} (hs : P s)
    (hkeep : ∀ u, P u → ∀ t ∈ order, P (u.take align t).retarget) : P (s.takes align order) :=
  List.foldlRecOn order _ hs hkeep

/-- Each taker has its one turn. -/
theorem takeOrder_split (order : List Taker) (t : Taker) :
    ∃ before after, takeOrder order = before ++ t :: after ∧ t ∉ before ∧ t ∉ after := by
  obtain ⟨before, after, hsplit⟩ := List.append_of_mem (mem_takeOrder t order)
  have hnodup := takeOrder_nodup order
  rw [hsplit, List.nodup_append, List.nodup_cons] at hnodup
  obtain ⟨_, ⟨hafter, _⟩, hdisjoint⟩ := hnodup
  exact ⟨before, after, hsplit, fun hbefore => hdisjoint t hbefore t List.mem_cons_self rfl, hafter⟩

/-! ### The mode over a start (R145) -/

/-- R145: a swap out of SETUP makes the mode RUN. -/
theorem State.swap_mode (s : State) :
    s.swap.mode = if s.mode.mode = .setup then { s.mode with mode := .run } else s.mode := by
  have hmode (u : State) (hu : u.mode = s.mode) :
      (if u.mode.mode = .setup then u.changeMode .run else u).mode =
        if s.mode.mode = .setup then { s.mode with mode := .run } else s.mode := by
    rw [← hu]
    split
    · rw [State.changeMode_eq]
    · rfl
  unfold State.swap
  dsimp only
  split
  · exact hmode _ (by simp)
  · exact hmode _ (by simp)

/-- Outside DIMMING the bank alone changes the mode. -/
theorem State.take_mode_eq {s : State} (align : Bool) (t : Taker) (h : s.mode.mode ≠ .dimming) :
    (s.take align t).mode =
      if t = .bank ∧ s.swapDue = true ∧ s.mode.mode = .setup then { s.mode with mode := .run } else s.mode := by
  cases t with
  | bank =>
    rw [State.take, State.bankStart]
    by_cases hdue : s.swapDue = true
    · rw [if_pos hdue, State.swap_mode]
      simp only [hdue, true_and]
    · rw [if_neg hdue, if_neg fun hall => hdue hall.2.1]
  | master => simp [State.take, State.masterStart, h]
  | acquisition | write =>
    rw [State.take]
    split <;> simp
  | _ => simp [State.take]

theorem State.take_not_dimming {s : State} (align : Bool) (t : Taker) (h : s.mode.mode ≠ .dimming) :
    (s.take align t).mode.mode ≠ .dimming := by
  rw [State.take_mode_eq align t h]
  split
  · simp
  · exact h

/-- R145: outside DIMMING a walk that reaches the bank with a swap due makes SETUP RUN. -/
theorem State.takes_mode {s : State} (align : Bool) (order : List Taker) (h : s.mode.mode ≠ .dimming) :
    (s.takes align order).mode =
      if .bank ∈ order ∧ s.swapDue = true ∧ s.mode.mode = .setup then { s.mode with mode := .run }
      else s.mode := by
  induction order generalizing s with
  | nil => exact (if_neg fun hall => absurd hall.1 List.not_mem_nil).symm
  | cons t ts ih =>
    have hmode := State.take_mode_eq align t h
    have hbanks := s.take_banks align t
    rw [State.takes_cons, ih (s := (s.take align t).retarget) (s.take_not_dimming align t h), State.retarget_mode]
    by_cases hnow : t = .bank ∧ s.swapDue = true
    · rw [if_pos hnow] at hbanks
      have hdone : (s.take align t).retarget.swapDue = false := State.not_swapDue_of_swapped hbanks
      rw [hdone, if_neg fun hall => Bool.false_ne_true hall.2.1, hmode]
      simp [hnow.1, hnow.2]
    · rw [if_neg hnow] at hbanks
      have hdue : (s.take align t).retarget.swapDue = s.swapDue := State.swapDue_of_eq hbanks (by simp)
      rw [if_neg fun hall => hnow ⟨hall.1, hall.2.1⟩] at hmode
      rw [hdue, hmode]
      by_cases ht : t = .bank
      · have hnot : s.swapDue = false := by simpa [ht] using hnow
        simp [hnot]
      · have hne : ¬ Taker.bank = t := fun e => ht e.symm
        simp [hne]

theorem State.deliver_mode {s : State} (align : Bool) (env : Env) (h : s.mode.mode ≠ .dimming) :
    (s.deliver align env).mode =
      if s.swapDue = true ∧ s.mode.mode = .setup then { s.mode with mode := .run } else s.mode := by
  have hwalk := State.takes_mode (s := s.linked env) align (takeOrder env.order) h
  simp only [mem_takeOrder, true_and] at hwalk
  rw [State.deliver_eq, (State.probeServe_frame _).2.2.2.2.2.2.2.2.1]
  exact hwalk

theorem State.deliver_pins (s : State) (align : Bool) (env : Env) :
    (s.deliver align env).pins = { s.pins with linkGood := env.link } := by
  simp [State.deliver]

/-! ### A start with no input (R38, R166) -/

/-- With no input there is nothing to acquire: outside DIMMING each taker leaves the acquisition registers and the
timer. -/
theorem State.take_of_noSignal {s : State} (align : Bool) (t : Taker) (hmode : s.mode.mode ≠ .dimming)
    (hstate : s.acq.state = .noSignal) (hframe : s.acq.frame = none) :
    (s.take align t).acq = s.acq ∧ (s.take align t).timer = s.timer := by
  have hcanvas (u : State) (hu : u.acq = s.acq) : u.canvasChanged.acq = s.acq ∧ u.canvasChanged.timer = u.timer := by
    unfold State.canvasChanged
    rw [State.newCanvas_of_noSignal u (hu ▸ hstate), State.dropWrite_of_no_frame u.emptyBuffers (by
      show u.acq.frame = none
      rw [hu, hframe])]
    exact ⟨hu, rfl⟩
  cases t with
  | bank =>
    rw [State.take, State.bankStart]
    split
    · unfold State.swap
      dsimp only
      have hposted := hcanvas (State.post (.bankSwapped s.banks.swapped.revision) { s with banks := s.banks.swapped })
        (by simp)
      split <;> split <;> simp [State.changeMode_eq, hposted]
    · exact ⟨rfl, rfl⟩
  | master => simp [State.take, State.masterStart, hmode]
  | acquisition => simp [State.take, State.acquisitionStart_of_noSignal s hstate]
  | write => simp [State.take, State.beginWrite_of_noSignal s hstate]
  | _ => simp [State.take]

theorem State.deliver_of_noSignal {s : State} (align : Bool) (env : Env) (hmode : s.mode.mode ≠ .dimming)
    (hstate : s.acq.state = .noSignal) (hframe : s.acq.frame = none) :
    (s.deliver align env).acq = s.acq ∧ (s.deliver align env).timer = s.timer := by
  have hwalk := State.takes_keep (P := fun u => u.mode.mode ≠ .dimming ∧ u.acq = s.acq ∧ u.timer = s.timer)
    (align := align) (order := takeOrder env.order) (s := s.linked env) ⟨hmode, rfl, rfl⟩
    fun u hu t _ => by
      obtain ⟨hdim, hacq, htimer⟩ := hu
      obtain ⟨hacq', htimer'⟩ := State.take_of_noSignal align t hdim (hacq ▸ hstate) (hacq ▸ hframe)
      exact ⟨u.take_not_dimming align t hdim, hacq'.trans hacq, htimer'.trans htimer⟩
  obtain ⟨_, hacq, htimer⟩ := hwalk
  rw [State.deliver_eq]
  simpa using And.intro hacq htimer

/-! ### WAKE and WAKE_N (R166, R168) -/

theorem HomeMode.toMode_ne_dimming (h : HomeMode) : h.toMode ≠ .dimming := by
  cases h <;> decide

theorem HomeMode.toMode_setup_iff (h : HomeMode) : h.toMode = .setup ↔ h = .setup := by
  cases h <;> decide

/-- R38: the state in which the timer restarts at a wake. -/
def State.waking (s : State) : State :=
  let u := (s.changeMode s.mode.remembered.toMode).retarget
  State.handBase { u with timer := { u.timer with
    mode := .free, running := true, current := u.timer.staged, position := 0
    counter := u.timer.counter + 1 } }

theorem State.wakeUp_of_standby {s : State} (env : Env) (h : s.mode.mode = .standby) :
    s.wakeUp env = s.waking.deliver false env := by
  rw [State.wakeUp, h]
  rfl

theorem State.waking_kept (s : State) :
    s.waking.mode = { s.mode with mode := s.mode.remembered.toMode } ∧ s.waking.acq = s.acq ∧
    s.waking.timer = { s.timer with
      mode := .free, running := true, current := s.timer.staged, position := 0
      counter := s.timer.counter + 1 } ∧
    s.waking.banks = s.banks ∧ s.waking.profiles = s.profiles ∧ s.waking.link = s.link ∧
    s.waking.frames.mem = s.frames.mem := by
  unfold State.waking
  rw [State.changeMode_eq]
  simp

/-- Settles O25: WAKE_N by the mode; from STANDBY the start at once leaves the input alone, and an ARMED bank swaps
at it. WAKE is the same change and its reply. -/
theorem wakeReturnsToTheRememberedMode : Obligations.WakeReturnsToTheRememberedMode := by
  intro s env tag
  refine ⟨fun hmode => ?_, fun hmode => ?_, fun hmode hstate hframe => ?_, fun hfree hstarted t ht => ?_,
    fun hfree hmode => ?_⟩
  · show Host.Outcome.next (s.wakeUp env) = _
    rcases hmode with h | h | h <;> rw [State.wakeUp, h]
  · show Host.Outcome.next (s.wakeUp env) = _
    rw [State.wakeUp, hmode, State.changeMode_eq]
  · obtain ⟨hwoken, hacq, htimer, hbanks, hprofiles, hlink, hmem⟩ := s.waking_kept
    have hdimming : s.waking.mode.mode ≠ .dimming := by
      rw [hwoken]
      exact HomeMode.toMode_ne_dimming _
    have hdelivered := State.deliver_of_noSignal false env hdimming (hacq ▸ hstate) (hacq ▸ hframe)
    have hmodes := State.deliver_mode false env hdimming
    have hdue : s.waking.swapDue = s.swapDue := State.swapDue_of_eq hbanks hprofiles
    have hmode' : (s.waking.deliver false env).mode =
        ⟨if s.swapDue = true ∧ s.mode.remembered = .setup then .run else s.mode.remembered.toMode,
          s.mode.remembered⟩ := by
      rw [hmodes, hdue, hwoken]
      simp only [HomeMode.toMode_setup_iff]
      split <;> rfl
    refine ⟨s.waking.deliver false env, congrArg Host.Outcome.next (State.wakeUp_of_standby env hmode), ?_, ?_,
      hdelivered.2.trans htimer, ?_, hdelivered.1.trans hacq, ?_, ?_, ?_, s.waking.deliver_follows false env⟩
    · rw [hmode']
    · rw [hmode', State.swapDue]
      cases hremembered : s.mode.remembered <;> cases hstoring : s.profiles.ctl.isStoring <;>
        by_cases harmed : s.banks.pendState = .armed <;> simp [harmed, HomeMode.toMode]
    · rw [State.deliver_pins]
    · simp [hprofiles]
    · simp [hlink]
    · rw [State.deliver_mem, hmem]
  · have hpassed : exec (.wake tag [] env) s =
        .next (((s.handlingOf ⟨0x09, tag, []⟩).wakeUp env).answerMode) :=
      congrArg Host.Outcome.next (State.submit_started ⟨0x09, tag, []⟩
        (fun s => (s.wakeUp env).answerMode) hfree hstarted rfl)
    have hwoken : (s.handlingOf ⟨0x09, tag, []⟩).wakeUp env = t := Host.Outcome.next.inj ht
    have hlink : t.link = (s.handlingOf ⟨0x09, tag, []⟩).link := by
      rw [← hwoken]
      simp
    rw [hpassed, hwoken, State.answerMode, State.answer, hlink, State.replied, hlink]
    rfl
  · have hpassed : exec (.wake tag [] env) s = .next (s.unlessStarting ⟨0x09, tag, []⟩
        (((s.handlingOf ⟨0x09, tag, []⟩).wakeUp env).answerMode)) :=
      congrArg Host.Outcome.next (State.submit_request s ⟨0x09, tag, []⟩ _
        (fun s => (s.wakeUp env).answerMode) hfree rfl)
    rw [hpassed, State.unlessStarting, if_pos hmode]

end Sys2Proof.Machine
end

section
/-! PROOFS. Chapter 2, the choices among the frame buffers: the one shown (R26 to R28) and the one written
into (R23), held against the statements' own words. -/

namespace Sys2Proof.Machine

/-! ### The three folds over the buffers -/

/-- What a fold keeps from each item to the next, it has at the end for all of them. -/
theorem foldl_snoc_induction {α β : Type} {P : List α → β → Prop} {f : β → α → β} {init : β}
    (hinit : P [] init) (hstep : ∀ done x acc, P done acc → P (done ++ [x]) (f acc x)) (l : List α) :
    P l (l.foldl f init) := by
  induction l using List.reverseRecOn with
  | nil => exact hinit
  | append_singleton l x ih =>
    rw [List.foldl_append]
    exact hstep l x _ ih

theorem mem_bufNos (b : BufNo) : b ∈ bufNos := by
  revert b
  decide

/-- The first SHOWING buffer of a list, or none. -/
def showingOf (bufs : Three BufRec) (l : List BufNo) (best : Option (BufNo × BitVec 40 × BitVec 16)) : Prop :=
  match best with
  | none => ∀ b ∈ l, ¬ (bufs.get b).Showing
  | some (b, n, v) => bufs.get b = .showing n v

theorem showingBuf_spec (bufs : Three BufRec) : showingOf bufs bufNos (showingBuf bufs) := by
  refine foldl_snoc_induction (P := showingOf bufs) (fun _ h => absurd h List.not_mem_nil)
    (fun done b best h => ?_) bufNos
  cases best with
  | some best => exact h
  | none =>
    cases hb : bufs.get b with
    | showing n v => exact hb
    | empty | complete n v | filling n v =>
      intro c hc
      rcases List.mem_append.1 hc with hc | hc
      · exact h c hc
      · rw [List.mem_singleton.1 hc, hb]
        simp [BufRec.Showing]

theorem showingBuf_of_none {bufs : Three BufRec} (h : ∀ b, ¬ (bufs.get b).Showing) : showingBuf bufs = none := by
  have hspec := showingBuf_spec bufs
  cases hbest : showingBuf bufs with
  | none => rfl
  | some best =>
    rw [hbest] at hspec
    exact absurd ⟨_, _, hspec⟩ (h best.1)

theorem not_showing_of_showingBuf {bufs : Three BufRec} (h : showingBuf bufs = none) (b : BufNo) :
    ¬ (bufs.get b).Showing := by
  have hspec := showingBuf_spec bufs
  rw [h] at hspec
  exact hspec b (mem_bufNos b)

theorem showing_of_showingBuf {bufs : Three BufRec} {b : BufNo} {n : BitVec 40} {v : BitVec 16}
    (h : showingBuf bufs = some (b, n, v)) : bufs.get b = .showing n v := by
  have hspec := showingBuf_spec bufs
  rwa [h] at hspec

/-- R21: at most one buffer is SHOWING. -/
def OneShowing (bufs : Three BufRec) : Prop :=
  ∀ b c : BufNo, (bufs.get b).Showing → (bufs.get c).Showing → b = c

theorem showingBuf_of_showing {bufs : Three BufRec} (hone : OneShowing bufs) {b : BufNo} {n : BitVec 40}
    {v : BitVec 16} (h : bufs.get b = .showing n v) : showingBuf bufs = some (b, n, v) := by
  cases hbest : showingBuf bufs with
  | none => exact absurd ⟨n, v, h⟩ (not_showing_of_showingBuf hbest b)
  | some best =>
    obtain ⟨c, m, w⟩ := best
    have hc := showing_of_showingBuf hbest
    have heq := hone c b ⟨m, w, hc⟩ ⟨n, v, h⟩
    subst heq
    cases hc.symm.trans h
    rfl

/-- R21: a COMPLETE buffer of a list with the highest frame number, or none. -/
def newestOf (bufs : Three BufRec) (l : List BufNo) (best : Option (BufNo × BitVec 40)) : Prop :=
  match best with
  | none => ∀ b ∈ l, ∀ n v, bufs.get b ≠ .complete n v
  | some (b, n) => (∃ v, bufs.get b = .complete n v) ∧ ∀ c ∈ l, ∀ m w, bufs.get c = .complete m w → m ≤ n

theorem newestComplete_spec (bufs : Three BufRec) : newestOf bufs bufNos (newestComplete bufs) := by
  refine foldl_snoc_induction (P := newestOf bufs) (fun _ h => absurd h List.not_mem_nil)
    (fun done b best h => ?_) bufNos
  have hnot (hb : ∀ n v, bufs.get b ≠ .complete n v) : newestOf bufs (done ++ [b]) best := by
    cases best with
    | none =>
      intro c hc
      rcases List.mem_append.1 hc with hc | hc
      · exact h c hc
      · exact List.mem_singleton.1 hc ▸ hb
    | some best =>
      refine ⟨h.1, fun c hc m w hm => ?_⟩
      rcases List.mem_append.1 hc with hc | hc
      · exact h.2 c hc m w hm
      · exact absurd (List.mem_singleton.1 hc ▸ hm) (hb m w)
  cases hb : bufs.get b with
  | empty => exact hnot (by simp [hb])
  | filling n v => exact hnot (by simp [hb])
  | showing n v => exact hnot (by simp [hb])
  | complete n v =>
    have hlast {m : BitVec 40} {w : BitVec 16} {c : BufNo} (hc : c ∈ [b]) (hm : bufs.get c = .complete m w) :
        m = n := by
      rw [List.mem_singleton.1 hc, hb] at hm
      cases hm
      rfl
    cases best with
    | none =>
      refine ⟨⟨v, hb⟩, fun c hc m w hm => ?_⟩
      rcases List.mem_append.1 hc with hc | hc
      · exact absurd hm (h c hc m w)
      · exact hlast hc hm ▸ BitVec.le_refl _
    | some best =>
      obtain ⟨c, m⟩ := best
      dsimp only
      split
      · next hlt =>
        refine ⟨⟨v, hb⟩, fun d hd k w hk => ?_⟩
        rcases List.mem_append.1 hd with hd | hd
        · exact BitVec.le_trans (h.2 d hd k w hk) (BitVec.le_of_lt hlt)
        · exact hlast hd hk ▸ BitVec.le_refl _
      · next hle =>
        refine ⟨h.1, fun d hd k w hk => ?_⟩
        rcases List.mem_append.1 hd with hd | hd
        · exact h.2 d hd k w hk
        · exact hlast hd hk ▸ BitVec.not_lt.1 hle

theorem newestComplete_some {bufs : Three BufRec} {b : BufNo} {n : BitVec 40}
    (h : newestComplete bufs = some (b, n)) : Spec.NewestComplete bufs b n := by
  have hspec := newestComplete_spec bufs
  rw [h] at hspec
  exact ⟨hspec.1, fun c => hspec.2 c (mem_bufNos c)⟩

theorem newestComplete_none {bufs : Three BufRec} (h : newestComplete bufs = none) (b : BufNo) (n : BitVec 40)
    (v : BitVec 16) : bufs.get b ≠ .complete n v := by
  have hspec := newestComplete_spec bufs
  rw [h] at hspec
  exact hspec b (mem_bufNos b) n v

/-- R23: of the COMPLETE buffers of a list other than one, one with the lowest frame number, or none. -/
def oldestOf (bufs : Three BufRec) (newest : Option BufNo) (l : List BufNo)
    (best : Option (BufNo × BitVec 40)) : Prop :=
  match best with
  | none => ∀ b ∈ l, newest ≠ some b → ∀ n v, bufs.get b ≠ .complete n v
  | some (b, n) => newest ≠ some b ∧ (∃ v, bufs.get b = .complete n v) ∧
      ∀ c ∈ l, newest ≠ some c → ∀ m w, bufs.get c = .complete m w → n ≤ m

theorem oldestComplete_spec (bufs : Three BufRec) (newest : Option BufNo) :
    oldestOf bufs newest bufNos (oldestComplete bufs newest) := by
  refine foldl_snoc_induction (P := oldestOf bufs newest) (fun _ h => absurd h List.not_mem_nil)
    (fun done b best h => ?_) bufNos
  have hnot (hb : newest = some b ∨ ∀ n v, bufs.get b ≠ .complete n v) :
      oldestOf bufs newest (done ++ [b]) best := by
    have hlast {c : BufNo} (hc : c ∈ [b]) (hne : newest ≠ some c) (n v) : bufs.get c ≠ .complete n v := by
      rw [List.mem_singleton.1 hc] at hne ⊢
      exact hb.resolve_left hne n v
    cases best with
    | none =>
      intro c hc hne
      rcases List.mem_append.1 hc with hc | hc
      · exact h c hc hne
      · exact hlast hc hne
    | some best =>
      refine ⟨h.1, h.2.1, fun c hc hne m w hm => ?_⟩
      rcases List.mem_append.1 hc with hc | hc
      · exact h.2.2 c hc hne m w hm
      · exact absurd hm (hlast hc hne m w)
  cases hb : bufs.get b with
  | empty => exact hnot (.inr (by simp [hb]))
  | filling n v => exact hnot (.inr (by simp [hb]))
  | showing n v => exact hnot (.inr (by simp [hb]))
  | complete n v =>
    have hlast {m : BitVec 40} {w : BitVec 16} {c : BufNo} (hc : c ∈ [b]) (hm : bufs.get c = .complete m w) :
        m = n := by
      rw [List.mem_singleton.1 hc, hb] at hm
      cases hm
      rfl
    cases best with
    | none =>
      dsimp only
      split
      · next heq => exact hnot (.inl heq)
      · next hne =>
        refine ⟨hne, ⟨v, hb⟩, fun c hc hother m w hm => ?_⟩
        rcases List.mem_append.1 hc with hc | hc
        · exact absurd hm (h c hc hother m w)
        · exact hlast hc hm ▸ BitVec.le_refl _
    | some best =>
      obtain ⟨c, m⟩ := best
      dsimp only
      split
      · next heq => exact hnot (.inl heq)
      · next hne =>
        split
        · next hlt =>
          refine ⟨hne, ⟨v, hb⟩, fun d hd hother k w hk => ?_⟩
          rcases List.mem_append.1 hd with hd | hd
          · exact BitVec.le_trans (BitVec.le_of_lt hlt) (h.2.2 d hd hother k w hk)
          · exact hlast hd hk ▸ BitVec.le_refl _
        · next hle =>
          refine ⟨h.1, h.2.1, fun d hd hother k w hk => ?_⟩
          rcases List.mem_append.1 hd with hd | hd
          · exact h.2.2 d hd hother k w hk
          · exact hlast hd hk ▸ BitVec.not_lt.1 hle

/-! ### The buffer a frame is written into (R23) -/

theorem firstEmpty_some {bufs : Three BufRec} {b : BufNo} :
    (bufNos.find? fun b => decide (bufs.get b = .empty)) = some b ↔
      bufs.get b = .empty ∧ ∀ c < b, bufs.get c ≠ .empty := by
  revert b
  simp only [bufNos, List.find?_cons, List.find?_nil, Fin.forall_fin_succ]
  by_cases h0 : bufs.get 0 = .empty <;> by_cases h1 : bufs.get 1 = .empty <;>
    by_cases h2 : bufs.get 2 = .empty <;> simp [h0, h1, h2]

theorem firstEmpty_none {bufs : Three BufRec} :
    (bufNos.find? fun b => decide (bufs.get b = .empty)) = none ↔ ∀ c, bufs.get c ≠ .empty := by
  simp [List.find?_eq_none, mem_bufNos]

/-- Without an EMPTY buffer the oldest COMPLETE one other than the newest is taken. -/
theorem chooseForWrite_full {bufs : Three BufRec} (h : ∀ c, bufs.get c ≠ .empty) :
    chooseForWrite bufs = (oldestComplete bufs ((newestComplete bufs).map Prod.fst)).map Prod.fst := by
  rw [chooseForWrite, firstEmpty_none.2 h]

theorem chooseForWrite_empty {bufs : Three BufRec} {b : BufNo} (h : bufs.get b = .empty)
    (hfirst : ∀ c < b, bufs.get c ≠ .empty) : chooseForWrite bufs = some b := by
  rw [chooseForWrite, firstEmpty_some.2 ⟨h, hfirst⟩]

theorem chooseForWrite_mayTake {bufs : Three BufRec} {b : BufNo} (h : chooseForWrite bufs = some b) :
    Spec.WriterMayTake bufs b := by
  by_cases hfull : ∀ c, bufs.get c ≠ .empty
  · rw [chooseForWrite_full hfull] at h
    have hspec := oldestComplete_spec bufs ((newestComplete bufs).map Prod.fst)
    cases hbest : oldestComplete bufs ((newestComplete bufs).map Prod.fst) with
    | none => simp [hbest] at h
    | some best =>
      obtain ⟨c, n⟩ := best
      rw [hbest] at h hspec
      obtain rfl : c = b := by simpa using h
      obtain ⟨hne, ⟨v, hc⟩, hlow⟩ := hspec
      cases hnew : newestComplete bufs with
      | none => exact absurd hc (newestComplete_none hnew c n v)
      | some new =>
        obtain ⟨d, m⟩ := new
        obtain ⟨⟨w, hd⟩, hhigh⟩ := newestComplete_some hnew
        have hdc : d ≠ c := fun heq => hne (by rw [hnew, heq]; rfl)
        refine .inr ⟨hfull, n, v, hc, ⟨d, m, w, hdc, hd⟩, fun e k x hec hk => ?_⟩
        by_cases hed : e = d
        · subst hed
          cases hd.symm.trans hk
          exact hhigh c n v hc
        · refine hlow e (mem_bufNos e) ?_ k x hk
          rw [hnew]
          simpa using fun heq : d = e => hed heq.symm
  · cases hfind : (bufNos.find? fun b => decide (bufs.get b = .empty)) with
    | none => exact absurd (firstEmpty_none.1 hfind) hfull
    | some c =>
      rw [chooseForWrite, hfind] at h
      cases h
      exact .inl (firstEmpty_some.1 hfind)

theorem chooseForWrite_of_takes {bufs : Three BufRec} {b : BufNo} (h : Spec.WriterTakes bufs b) :
    chooseForWrite bufs = some b := by
  rcases h with ⟨hb, hfirst⟩ | ⟨hfull, n, v, hb, ⟨c, m, w, hcb, hc⟩, hlow⟩
  · exact chooseForWrite_empty hb hfirst
  · have hnewest : (newestComplete bufs).map Prod.fst ≠ some b := by
      intro hnew
      cases hbest : newestComplete bufs with
      | none => simp [hbest] at hnew
      | some best =>
        rw [hbest] at hnew
        obtain ⟨⟨x, hx⟩, hhigh⟩ := newestComplete_some (b := best.1) (n := best.2) hbest
        rw [show best.1 = b by simpa using hnew, hb] at hx
        cases hx
        exact absurd (hhigh c m w hc) (BitVec.not_le.2 (hlow c m w hcb hc))
    have hspec := oldestComplete_spec bufs ((newestComplete bufs).map Prod.fst)
    rw [chooseForWrite_full hfull]
    cases hbest : oldestComplete bufs ((newestComplete bufs).map Prod.fst) with
    | none =>
      rw [hbest] at hspec
      exact absurd hb (hspec b (mem_bufNos b) hnewest n v)
    | some best =>
      obtain ⟨d, k⟩ := best
      rw [hbest] at hspec
      obtain ⟨-, ⟨x, hd⟩, hmin⟩ := hspec
      have hkn := hmin b (mem_bufNos b) hnewest n v hb
      have hdb : d = b := by
        by_contra hne
        exact absurd (hlow d k x hne hd) (BitVec.not_lt.2 hkn)
      rw [hdb]
      rfl

/-- R23: with no frame written and one buffer SHOWING at most, there is always a buffer to write into. -/
theorem chooseForWrite_isSome {bufs : Three BufRec} (hone : OneShowing bufs) (hfree : ∀ b, ¬ (bufs.get b).Filling) :
    ∃ b, chooseForWrite bufs = some b := by
  by_contra hnone
  have hchoice : chooseForWrite bufs = none := Option.eq_none_iff_forall_ne_some.2 fun b hb => hnone ⟨b, hb⟩
  have hfull : ∀ c, bufs.get c ≠ .empty := by
    cases hfind : (bufNos.find? fun b => decide (bufs.get b = .empty)) with
    | none => exact firstEmpty_none.1 hfind
    | some c => simp [chooseForWrite, hfind] at hchoice
  have hspec := oldestComplete_spec bufs ((newestComplete bufs).map Prod.fst)
  rw [chooseForWrite_full hfull, Option.map_eq_none_iff] at hchoice
  rw [hchoice] at hspec
  have hkind (b : BufNo) (hb : (newestComplete bufs).map Prod.fst ≠ some b) : (bufs.get b).Showing := by
    cases hrec : bufs.get b with
    | empty => exact absurd hrec (hfull b)
    | filling n v => exact absurd ⟨n, v, hrec⟩ (hfree b)
    | complete n v => exact absurd hrec (hspec b (mem_bufNos b) hb n v)
    | showing n v => exact ⟨n, v, rfl⟩
  have hpair (b c : BufNo) (hbc : b ≠ c) :
      (newestComplete bufs).map Prod.fst = some b ∨ (newestComplete bufs).map Prod.fst = some c := by
    by_contra h
    rw [not_or] at h
    exact hbc (hone b c (hkind b h.1) (hkind c h.2))
  rcases hpair 0 1 (by decide) with h | h <;> rcases hpair 1 2 (by decide) with h' | h' <;>
    rcases hpair 0 2 (by decide) with h'' | h'' <;> simp_all

/-! ### The buffer shown (R26 to R28) -/

theorem showBuffer_shows (b : BufNo) (bufs : Three BufRec) : Spec.Shows b bufs (showBuffer b bufs) := by
  intro c
  rw [showBuffer_get]
  cases bufs.get c with
  | empty | filling n v => simp [BufRec.toComplete, BufRec.toShowing]
  | complete n v | showing n v => simp [BufRec.toComplete, BufRec.toShowing]

theorem Spec.NewestComplete.number_eq {bufs : Three BufRec} {b c : BufNo} {n m : BitVec 40}
    (hb : Spec.NewestComplete bufs b n) (hc : Spec.NewestComplete bufs c m) : n = m := by
  obtain ⟨⟨v, hv⟩, hhigh⟩ := hb
  obtain ⟨⟨w, hw⟩, hhigh'⟩ := hc
  exact BitVec.le_antisymm (hhigh' b n v hv) (hhigh c m w hw)

/-- The buffers after a choice. -/
def shownAfter (choice : Option BufNo) (bufs : Three BufRec) : Three BufRec :=
  match choice with
  | none => bufs
  | some b => showBuffer b bufs

theorem State.changeShowing_eq (b : Option BufNo) (s : State) :
    s.changeShowing b = { s with frames := { s.frames with bufs := shownAfter b s.frames.bufs } } := by
  cases b <;> rfl

theorem chooseNewest_shown {bufs : Three BufRec} (hone : OneShowing bufs) :
    Spec.NewestShown bufs (shownAfter (chooseNewest bufs) bufs) := by
  unfold chooseNewest
  cases hnew : newestComplete bufs with
  | none =>
    exact .inr ⟨fun b n hb => hb.1.elim fun v hv => absurd hv (newestComplete_none hnew b n v), rfl⟩
  | some new =>
    obtain ⟨b, n⟩ := new
    have hbest := newestComplete_some hnew
    cases hshow : showingBuf bufs with
    | none =>
      exact .inl ⟨b, n, hbest, fun c m w hc => absurd ⟨m, w, hc⟩ (not_showing_of_showingBuf hshow c),
        showBuffer_shows b bufs⟩
    | some shown =>
      obtain ⟨c, m, w⟩ := shown
      have hc := showing_of_showingBuf hshow
      dsimp only
      split
      · next hlt =>
        refine .inl ⟨b, n, hbest, fun d k x hd => ?_, showBuffer_shows b bufs⟩
        obtain rfl := hone d c ⟨k, x, hd⟩ ⟨m, w, hc⟩
        cases hd.symm.trans hc
        exact hlt
      · next hle =>
        exact .inr ⟨fun d k hd => ⟨c, m, w, hc, Spec.NewestComplete.number_eq hd hbest ▸ BitVec.not_lt.1 hle⟩, rfl⟩

theorem holderOf_some {e : BitVec 40} {bufs : Three BufRec} {b : BufNo} (h : holderOf e bufs = some b) :
    ∃ v, bufs.get b = .complete e v ∨ bufs.get b = .showing e v := by
  have hb := List.find?_some h
  cases hrec : bufs.get b with
  | empty | filling n v => simp [hrec] at hb
  | complete n v => exact ⟨v, .inl (by simpa [hrec] using hb)⟩
  | showing n v => exact ⟨v, .inr (by simpa [hrec] using hb)⟩

theorem holderOf_none {e : BitVec 40} {bufs : Three BufRec} (h : holderOf e bufs = none) (b : BufNo) (v : BitVec 16) :
    bufs.get b ≠ .complete e v ∧ bufs.get b ≠ .showing e v := by
  have hb := List.find?_eq_none.1 h b (mem_bufNos b)
  constructor <;> intro hrec <;> simp [hrec] at hb

theorem chooseExpected_shown {bufs : Three BufRec} (hone : OneShowing bufs) (e : BitVec 40) :
    Spec.ExpectedShown e bufs (shownAfter (chooseExpected e bufs) bufs) := by
  unfold chooseExpected
  cases hhold : holderOf e bufs with
  | some b =>
    obtain ⟨v, hv⟩ := holderOf_some hhold
    exact .inl ⟨b, v, hv, showBuffer_shows b bufs⟩
  | none => exact .inr ⟨holderOf_none hhold, chooseNewest_shown hone⟩

end Sys2Proof.Machine
end

section
/-! PROOFS. Chapters 3 to 6, the pixel pipeline (R49 to R61, R69 to R81, R91 to R94, R120): every stage of
a pixel follows its rule, and the four weights at one canvas position sum to 4095..4098 (R76). -/

namespace Sys2Proof.Machine

/-! ### Rounding (00_scope.md, Conventions) -/

theorem Spec.rounded_ediv (x : Int) {y : Nat} (hy : 0 < y) :
    Spec.Rounded ((x + (y / 2 : Nat)) / (y : Int)) x y := by
  have hpos : (0 : Int) < y := by exact_mod_cast hy
  exact ⟨Int.mul_ediv_self_le (by omega), Int.lt_mul_ediv_self_add hpos |>.trans_eq (by ring)⟩

theorem Spec.rounded_roundDivInt (x : Int) {y : Nat} (hy : 0 < y) : Spec.Rounded (roundDivInt x y) x y :=
  Spec.rounded_ediv x hy

theorem Spec.rounded_roundDiv (x : Nat) {y : Nat} (hy : 0 < y) : Spec.Rounded (roundDiv x y : Nat) x y := by
  rw [roundDiv]
  push_cast
  simpa using Spec.rounded_ediv (x : Int) hy

/-- The rounded quotient is the only one. -/
theorem Spec.Rounded.eq_ediv {q x : Int} {y : Nat} (hy : 0 < y) (h : Spec.Rounded q x y) :
    q = (x + (y / 2 : Nat)) / (y : Int) := by
  have hpos : (0 : Int) < y := by exact_mod_cast hy
  obtain ⟨hlow, hhigh⟩ := h
  apply le_antisymm
  · exact (Int.le_ediv_iff_mul_le hpos).2 (by rwa [mul_comm])
  · exact Int.lt_add_one_iff.1 ((Int.ediv_lt_iff_lt_mul hpos).2 (by rwa [mul_comm]))

theorem roundDiv_mul_self (x : Nat) {y : Nat} (hy : 0 < y) : roundDiv (y * x) y = x := by
  rw [roundDiv, Nat.mul_add_div hy, Nat.div_eq_of_lt (Nat.div_lt_self hy one_lt_two), add_zero]

theorem roundDiv_mono {a b : Nat} (h : a ≤ b) (y : Nat) : roundDiv a y ≤ roundDiv b y :=
  Nat.div_le_div_right (by omega)

/-- A product of factors of at most 4096, rounded back to one factor's scale. -/
theorem roundDiv_one_le {a b : Nat} (ha : a ≤ 4096) (hb : b ≤ 4096) : roundDiv (a * b) Config.one ≤ 4096 :=
  (roundDiv_mono (Nat.mul_le_mul ha hb) _).trans_eq (roundDiv_mul_self 4096 (by decide))

/-! ### The stages by name -/

theorem Four.get_mapIdx {α β : Type} (g : Output → α → β) (f : Four α) (k : Output) :
    (f.mapIdx g).get k = g k (f.get k) := by
  match k with
  | 0 | 1 | 2 | 3 => rfl

section
variable (st : BankStore) (pic : Option Picture) (presences : Four Nat) (level : Nat) (path : PathMode)
  (k : Output) (u v : Nat)

theorem BankStore.stages_reach (j : Output) :
    ((st.stages pic presences level path k u v).reaches.get j) =
      ⟨(st.scene.outs.get j).coverage.reach (st.stages pic presences level path k u v).x
          (st.stages pic presences level path k u v).y,
        scaledReach ((st.scene.outs.get j).coverage.reach (st.stages pic presences level path k u v).x
          (st.stages pic presences level path k u v).y) (presences.get j),
        presences.get j⟩ :=
  Four.get_mapIdx _ presences j

theorem BankStore.stages_weight (h : path ≠ .unblended) :
    (st.stages pic presences level path k u v).weight =
      weightOf ((st.stages pic presences level path k u v).reaches.get k).scaled
        (st.stages pic presences level path k u v).sum :=
  if_neg h

theorem BankStore.stages_sum :
    (st.stages pic presences level path k u v).sum =
      ((st.stages pic presences level path k u v).reaches.get 0).scaled +
      ((st.stages pic presences level path k u v).reaches.get 1).scaled +
      ((st.stages pic presences level path k u v).reaches.get 2).scaled +
      ((st.stages pic presences level path k u v).reaches.get 3).scaled :=
  rfl

end

/-! ### The reach (R71, R72, R75) -/

theorem Coverage.contains_iff (c : Coverage) (x y : Int) : c.contains x y = true ↔ Spec.inside c x y :=
  decide_eq_true_iff

theorem edgeFactor_le (d f : Nat) : edgeFactor d f ≤ 4096 := by
  unfold edgeFactor
  split
  · exact le_rfl
  · exact min_le_left _ _

theorem edgeFactor_cast {d : Int} (h : 0 ≤ d) (f : Nat) : (edgeFactor d.toNat f : Int) = Spec.edge d f := by
  unfold edgeFactor Spec.edge
  split
  · rfl
  · push_cast
    rw [Int.toNat_of_nonneg h]

theorem Coverage.reach_le (c : Coverage) (x y : Int) : c.reach x y ≤ 4096 := by
  unfold Coverage.reach
  split
  · exact roundDiv_one_le (roundDiv_one_le (roundDiv_one_le (edgeFactor_le _ _) (edgeFactor_le _ _))
      (edgeFactor_le _ _)) (edgeFactor_le _ _)
  · exact Nat.zero_le _

theorem Coverage.reached (c : Coverage) (x y : Int) : Spec.Reached c x y (c.reach x y) := by
  constructor
  · intro h
    exact if_neg (mt (c.contains_iff x y).1 h)
  · intro h
    obtain ⟨hleft, hright, htop, hbottom⟩ := id h
    rw [Coverage.reach, if_pos ((c.contains_iff x y).2 h), ← edgeFactor_cast (sub_nonneg.2 hleft),
      ← edgeFactor_cast (show 0 ≤ (c.right : Int) - 1 - x by omega), ← edgeFactor_cast (sub_nonneg.2 htop),
      ← edgeFactor_cast (show 0 ≤ (c.bottom : Int) - 1 - y by omega)]
    have hone : 0 < Config.one := by decide
    exact ⟨_, _, by exact_mod_cast Spec.rounded_roundDiv (edgeFactor _ _ * edgeFactor _ _) hone,
      by exact_mod_cast Spec.rounded_roundDiv (roundDiv _ _ * edgeFactor _ _) hone,
      by exact_mod_cast Spec.rounded_roundDiv (roundDiv _ _ * edgeFactor _ _) hone⟩

theorem scaledReach_le {r p : Nat} (hr : r ≤ 4096) (hp : p ≤ 4096) : scaledReach r p ≤ 4096 :=
  roundDiv_one_le hr hp

/-! ### The weights (R76) -/

theorem weightOf_eq {s : Nat} (h : 0 < s) (q : Nat) : weightOf q s = (q * 4096 + s / 2) / s :=
  if_neg h.ne'

theorem weightOf_le {q s : Nat} (h : q ≤ s) : weightOf q s ≤ 4096 := by
  unfold weightOf
  split
  · exact Nat.zero_le _
  · next hs => exact (roundDiv_mono (Nat.mul_le_mul_right _ h) _).trans_eq (roundDiv_mul_self _ (by omega))

/-- What four rounded shares of 4096 add up to. -/
theorem weights_sum {q0 q1 q2 q3 s : Nat} (hsum : s = q0 + q1 + q2 + q3) (hs : 0 < s) :
    4095 ≤ weightOf q0 s + weightOf q1 s + weightOf q2 s + weightOf q3 s ∧
    weightOf q0 s + weightOf q1 s + weightOf q2 s + weightOf q3 s ≤ 4098 := by
  have hlow (q : Nat) : s * weightOf q s ≤ q * 4096 + s / 2 := by
    rw [weightOf_eq hs]
    exact Nat.mul_div_le _ _
  have hhigh (q : Nat) : q * 4096 + s / 2 < s * weightOf q s + s := by
    rw [weightOf_eq hs]
    exact Nat.lt_mul_div_succ _ hs |>.trans_eq (by ring)
  have hle : s * (weightOf q0 s + weightOf q1 s + weightOf q2 s + weightOf q3 s) ≤ s * 4098 := by
    linarith [hlow q0, hlow q1, hlow q2, hlow q3, Nat.mul_div_le s 2]
  have hge : s * 4094 < s * (weightOf q0 s + weightOf q1 s + weightOf q2 s + weightOf q3 s) := by
    have hhalf : s ≤ 2 * (s / 2) + 1 := by omega
    linarith [hhigh q0, hhigh q1, hhigh q2, hhigh q3]
  exact ⟨Nat.lt_of_mul_lt_mul_left hge, Nat.le_of_mul_le_mul_left hle hs⟩

/-! ### The warp (R51 to R55) -/

/-- R51: the offset of a pixel in its cell lies within the pitch. -/
theorem cell_offset_le {size pitch u i a : Nat} (hpitch : 0 < pitch) (hsize : 1 < size) (hu : u < size)
    (hi : i = min (u / pitch) (Spec.pointsAlong size pitch - 2)) (ha : u = i * pitch + a) : a ≤ pitch := by
  rcases Nat.le_total (u / pitch) (Spec.pointsAlong size pitch - 2) with h | h
  · rw [min_eq_left h] at hi
    have := Nat.lt_mul_div_succ u hpitch
    subst hi
    rw [Nat.mul_comm] at ha
    linarith
  · rw [min_eq_right h] at hi
    have hcount : Spec.pointsAlong size pitch - 2 + 1 = (size - 1 + pitch - 1) / pitch := by
      have : 1 ≤ (size - 1 + pitch - 1) / pitch := (Nat.le_div_iff_mul_le hpitch).2 (by omega)
      rw [Spec.pointsAlong]
      omega
    have hceil := Nat.lt_mul_div_succ (size - 1 + pitch - 1) hpitch
    rw [← hcount, ← hi] at hceil
    have : i * pitch = pitch * i := Nat.mul_comm _ _
    have : pitch * (i + 1 + 1) = pitch * i + pitch + pitch := by ring
    omega

theorem meshMean_rounded {pitch a b : Nat} (hpitch : 0 < pitch) (ha : a ≤ pitch) (hb : b ≤ pitch)
    (v00 v10 v01 v11 : Int) :
    Spec.Rounded (meshMean pitch a b v00 v10 v01 v11)
      (((pitch : Int) - a) * ((pitch : Int) - b) * v00 + a * ((pitch : Int) - b) * v10 +
        ((pitch : Int) - a) * b * v01 + a * b * v11) (pitch * pitch) := by
  have h := Spec.rounded_roundDivInt
    ((((pitch - a) * (pitch - b) : Nat) : Int) * v00 + ((a * (pitch - b) : Nat) : Int) * v10 +
      (((pitch - a) * b : Nat) : Int) * v01 + ((a * b : Nat) : Int) * v11) (Nat.mul_pos hpitch hpitch)
  push_cast [Nat.cast_sub ha, Nat.cast_sub hb] at h
  unfold meshMean
  push_cast [Nat.cast_sub ha, Nat.cast_sub hb]
  exact h

theorem meshMean_nonneg (pitch a b v00 v10 v01 v11 : Nat) : 0 ≤ meshMean pitch a b v00 v10 v01 v11 :=
  Int.ediv_nonneg (by positivity) (by positivity)

theorem BankStore.meshWarped {st : BankStore} {k : Output} {u v : Nat} (hin : st.scene.InRange)
    (hu : u < st.scene.rasterW) (hv : v < st.scene.rasterH) {x : PixelStages}
    (hx : x.sx = (st.meshWarp k u v).sx ∧ x.sy = (st.meshWarp k u v).sy ∧
      x.gain = (st.meshWarp k u v).gain ∧ x.degraded = (st.meshWarp k u v).degraded) :
    Spec.MeshWarped st k u v x := by
  intro pitch i j a b hpitch hi hj ha hb
  have hpos : 0 < pitch := by
    rcases (hin.outs k).pitch with h | h | h | h <;> omega
  have hwide : 1 < st.scene.rasterW := lt_of_lt_of_le (by decide) hin.rasterW.1
  have hhigh : 1 < st.scene.rasterH := lt_of_lt_of_le (by decide) hin.rasterH.1
  have hale := cell_offset_le hpos hwide hu hi ha
  have hble := cell_offset_le hpos hhigh hv hj hb
  have hcol : cellIndex u pitch (st.scene.cols k) = i := by
    rw [hi, hpitch]
    rfl
  have hrow : cellIndex v pitch (st.scene.rows k) = j := by
    rw [hj, hpitch]
    rfl
  have hwarp : st.meshWarp k u v =
      { sx := meshMean pitch a b (st.scene.corner k i j).sx (st.scene.corner k (i + 1) j).sx
          (st.scene.corner k i (j + 1)).sx (st.scene.corner k (i + 1) (j + 1)).sx
        sy := meshMean pitch a b (st.scene.corner k i j).sy (st.scene.corner k (i + 1) j).sy
          (st.scene.corner k i (j + 1)).sy (st.scene.corner k (i + 1) (j + 1)).sy
        gain := (meshMean pitch a b (st.scene.corner k i j).m (st.scene.corner k (i + 1) j).m
          (st.scene.corner k i (j + 1)).m (st.scene.corner k (i + 1) (j + 1)).m).toNat
        degraded := st.flagOf k (st.scene.flagNo k i j) } := by
    have hua : u - i * pitch = a := by omega
    have hvb : v - j * pitch = b := by omega
    simp only [BankStore.meshWarp, ← hpitch, hcol, hrow, hua, hvb]
  obtain ⟨hsx, hsy, hgain, hflag⟩ := hx
  rw [hwarp] at hsx hsy hgain hflag
  rw [hsx, hsy, hgain, hflag, Int.toNat_of_nonneg (meshMean_nonneg _ _ _ _ _ _ _)]
  have hcols : Spec.pointsAlong st.scene.rasterW pitch = st.scene.cols k := by rw [hpitch]; rfl
  refine ⟨hale, hble, ?_, ?_, ?_, by rw [hcols]; rfl⟩ <;> subst hpitch
  · exact meshMean_rounded hpos hale hble _ _ _ _
  · exact meshMean_rounded hpos hale hble _ _ _ _
  · exact meshMean_rounded hpos hale hble _ _ _ _

/-! ### The sample (R57 to R61) -/

theorem neighbour_eq_texel (sc : Scene) (pic : Option Picture) (x y : Int) :
    neighbour sc pic x y = Spec.texel sc pic x y := by
  unfold neighbour Spec.texel
  cases pic with
  | none => simp [black]
  | some p => rfl

theorem bilinear_rounded {fx fy : Nat} (hx : fx ≤ 16) (hy : fy ≤ 16) (v00 v10 v01 v11 : Nat) :
    Spec.Rounded (bilinear fx fy v00 v10 v01 v11 : Nat)
      ((16 - (fx : Int)) * (16 - (fy : Int)) * v00 + fx * (16 - (fy : Int)) * v10 +
        (16 - (fx : Int)) * fy * v01 + fx * fy * v11) 256 := by
  have h := Spec.rounded_roundDiv
    ((16 - fx) * (16 - fy) * v00 + fx * (16 - fy) * v10 + (16 - fx) * fy * v01 + fx * fy * v11)
    (show 0 < 256 by decide)
  rw [bilinear]
  push_cast [Nat.cast_sub hx, Nat.cast_sub hy] at h
  exact h

/-- R57 to R61, for a colour that the sampler treats like the three. -/
theorem sampled_of_colour {sc : Scene} {pic : Option Picture} {w : WarpPoint} {x : PixelStages}
    (hx : x.sx = w.sx ∧ x.sy = w.sy ∧ x.degraded = w.degraded ∧ x.x = w.sx / 16 ∧ x.y = w.sy / 16 ∧
      x.sample = sampleAt sc pic w) {colour : Rgb → Nat}
    (hcolour : ∀ fx fy (a b c d : Rgb), colour ⟨bilinear fx fy a.r b.r c.r d.r,
      bilinear fx fy a.g b.g c.g d.g, bilinear fx fy a.b b.b c.b d.b⟩ =
        bilinear fx fy (colour a) (colour b) (colour c) (colour d)) :
    Spec.Sampled sc pic x colour := by
  obtain ⟨hsx, hsy, hdegraded, hxx, hxy, hsample⟩ := hx
  constructor
  · intro hflag nx ny hnx hny
    rw [hsample, sampleAt, if_pos (hdegraded ▸ hflag), neighbour_eq_texel,
      Spec.Rounded.eq_ediv (by decide) hnx, Spec.Rounded.eq_ediv (by decide) hny, hsx, hsy]
    rfl
  · intro hflag fx fy hfx hfy
    have hmodx : fx = ((w.sx % 16).toNat : Int) := by omega
    have hmody : fy = ((w.sy % 16).toNat : Int) := by omega
    have hcolours : colour x.sample = bilinear (w.sx % 16).toNat (w.sy % 16).toNat
        (colour (neighbour sc pic x.x x.y)) (colour (neighbour sc pic (x.x + 1) x.y))
        (colour (neighbour sc pic x.x (x.y + 1))) (colour (neighbour sc pic (x.x + 1) (x.y + 1))) := by
      rw [hsample, sampleAt, if_neg (by rw [← hdegraded, hflag]; decide), hxx, hxy]
      exact hcolour _ _ _ _ _ _
    rw [hcolours, hmodx, hmody]
    simp only [neighbour_eq_texel]
    exact bilinear_rounded (by omega) (by omega) _ _ _ _

/-! ### The light path (R81, R79, R91 to R93) -/

theorem encodeCode_encoded (table : List Nat) (o : Nat) : Spec.Encoded table o (encodeCode table o) := by
  refine ⟨(((table.getD (o / 256 + 1) 0 : Nat) - (table.getD (o / 256) 0 : Nat) : Int) *
    (o % 256 : Nat) + 128) / 256, by omega, by omega, ?_⟩
  simp only [encodeCode]
  rw [clampInt_eq_max_min (by decide), Int.toNat_of_nonneg (le_max_left _ _)]
  rfl

/-- The light path of one colour channel, for a lift by R79 and R81. -/
theorem lit_of_lightSet {out : OutputScene} {path : PathMode} {level : Nat} {x : PixelStages} {l : LightSet}
    {floor sample gain : Nat}
    (hl : l = lightSet out level x.weight x.gain
      (if path = .unblended then 0 else liftOf floor x.room x.weight) sample gain) :
    Spec.Lit out path level x l floor sample gain := by
  subst hl
  refine ⟨fun h => if_pos h, fun h => ?_, ⟨_, ?_, rfl⟩, ?_, encodeCode_encoded _ _⟩
  · rw [lightSet, if_neg h]
    exact_mod_cast Spec.rounded_roundDiv _ (show 0 < 16777216 by decide)
  · exact_mod_cast Spec.rounded_roundDiv (sample * x.gain * x.weight * gain) (show 0 < 17179869184 by decide)
  · exact_mod_cast Spec.rounded_roundDiv _ (show 0 < Config.one by decide)

/-! ### The stages of a pixel -/

theorem BankStore.stagesOf (st : BankStore) (pic : Option Picture) (presences : Four Nat) (level : Nat)
    (path : PathMode) (k : Output) {u v : Nat} (hin : st.scene.InRange) (hu : u < st.scene.rasterW)
    (hv : v < st.scene.rasterH) :
    Spec.StagesOf st pic presences level path k u v (st.stages pic presences level path k u v) where
  flat := by
    rintro rfl
    exact ⟨rfl, rfl, rfl, rfl⟩
  mesh h := by
    have hwarp : st.warp path k u v = st.meshWarp k u v := by
      cases path with
      | flatWarp => exact absurd rfl h
      | normal | unblended | pattern => rfl
    refine BankStore.meshWarped hin hu hv ?_
    rw [← hwarp]
    exact ⟨rfl, rfl, rfl, rfl⟩
  canvas := by
    have hx : (st.stages pic presences level path k u v).x = (st.stages pic presences level path k u v).sx / 16 :=
      rfl
    have hy : (st.stages pic presences level path k u v).y = (st.stages pic presences level path k u v).sy / 16 :=
      rfl
    omega
  red := sampled_of_colour (w := st.warp path k u v) ⟨rfl, rfl, rfl, rfl, rfl, rfl⟩ fun _ _ _ _ _ _ => rfl
  green := sampled_of_colour (w := st.warp path k u v) ⟨rfl, rfl, rfl, rfl, rfl, rfl⟩ fun _ _ _ _ _ _ => rfl
  blue := sampled_of_colour (w := st.warp path k u v) ⟨rfl, rfl, rfl, rfl, rfl, rfl⟩ fun _ _ _ _ _ _ => rfl
  reaches j := by
    rw [BankStore.stages_reach]
    refine ⟨rfl, Coverage.reached _ _ _, ?_⟩
    exact_mod_cast Spec.rounded_roundDiv _ (show 0 < Config.one by decide)
  sum := st.stages_sum pic presences level path k u v
  weight h := by
    rw [st.stages_weight pic presences level path k u v h]
    refine ⟨fun hs => if_pos hs, fun hs => ?_⟩
    rw [weightOf, if_neg hs.ne']
    exact_mod_cast Spec.rounded_roundDiv _ hs
  own h := if_pos h
  cover := by
    refine ⟨fun j => if (st.scene.outs.get j).coverage.contains (st.stages pic presences level path k u v).x
      (st.stages pic presences level path k u v).y then presences.get j else 0, rfl, fun j => ⟨fun h => ?_, fun h => ?_⟩⟩
    · exact if_pos ((Coverage.contains_iff _ _ _).2 h)
    · exact if_neg (mt (Coverage.contains_iff _ _ _).1 h)
  room := by
    have hroom : (st.stages pic presences level path k u v).room =
        4096 * st.scene.ceiling - (st.stages pic presences level path k u v).cover := rfl
    omega
  litRed := lit_of_lightSet rfl
  litGreen := lit_of_lightSet rfl
  litBlue := lit_of_lightSet rfl

/-! ### The picture shown and the ports (R60, R94, R120) -/

theorem nearMark_iff (u pitch count size : Nat) :
    nearMark u pitch count size = true ↔
      ∃ c < count, |(u : Int) - (min (c * pitch) (size - 1) : Nat)| ≤ 2 := by
  have hdistance (m : Nat) : distance u m ≤ 2 ↔ |(u : Int) - m| ≤ 2 := by
    rw [distance, abs_le]
    omega
  simp [nearMark, hdistance]

theorem Scene.onPattern_iff (sc : Scene) (kind : PatternKind) (k : Output) (u v : Nat) :
    sc.onPattern kind k u v = true ↔ Spec.OnPattern sc kind k u v := by
  cases kind with
  | grid => simp [Scene.onPattern, Spec.OnPattern, onGrid, or_assoc]
  | dots =>
    simp only [Scene.onPattern, Spec.OnPattern, Bool.and_eq_true, nearMark_iff]
    constructor
    · rintro ⟨⟨c, hc, hu⟩, r, hr, hv⟩
      exact ⟨c, r, hc, hr, hu, hv⟩
    · rintro ⟨c, r, hc, hr, hu, hv⟩
      exact ⟨⟨c, hc, hu⟩, r, hr, hv⟩
  | flat => simp [Scene.onPattern, Spec.OnPattern]

theorem emittedCode_emitted (sc : Scene) (port : PortContent) (x : PixelStages) (k : Output) (u v : Nat) :
    Spec.Emitted sc port x k u v (emittedCode sc port x k u v) := by
  cases port with
  | code0 => rfl
  | pattern kind level =>
    exact ⟨fun h => if_pos ((sc.onPattern_iff kind k u v).2 h),
      fun h => if_neg (mt (sc.onPattern_iff kind k u v).1 h)⟩
  | computed => rfl

theorem State.shownPicture {s : State} (h : s.BuffersSound) : Spec.ShownPicture s s.showingPicture := by
  constructor
  · rintro b ⟨n, v, hb⟩
    rw [State.showingPicture, showingBuf_of_showing h.oneShowing hb]
    rfl
  · intro hnone
    rw [State.showingPicture, showingBuf_of_none hnone]
    rfl

/-- The weights of four pixels at one canvas position (R76). -/
theorem stages_weights {st : BankStore} {pic : Option Picture} {presences : Four Nat} {level : Nat}
    {path : Output → PathMode} {u v : Output → Nat} {stages : Output → PixelStages}
    (hpath : ∀ k, path k ≠ .unblended) (hpresence : ∀ k, presences.get k ≤ 4096)
    (hstages : ∀ k, stages k = st.stages pic presences level (path k) k (u k) (v k))
    (hplace : ∀ k, (stages k).x = (stages 0).x ∧ (stages k).y = (stages 0).y) (k : Output) :
    (∀ j, ((stages k).reaches.get j) = ((stages 0).reaches.get j)) ∧
    (∀ j, ((stages k).reaches.get j).scaled ≤ 4096) ∧
    (stages k).sum = (stages 0).sum ∧
    (stages k).sum = ((stages k).reaches.get 0).scaled + ((stages k).reaches.get 1).scaled +
      ((stages k).reaches.get 2).scaled + ((stages k).reaches.get 3).scaled ∧
    (stages k).weight = weightOf ((stages k).reaches.get k).scaled (stages k).sum := by
  have hreach (i j : Output) : (stages i).reaches.get j =
      ⟨(st.scene.outs.get j).coverage.reach (stages i).x (stages i).y,
        scaledReach ((st.scene.outs.get j).coverage.reach (stages i).x (stages i).y) (presences.get j),
        presences.get j⟩ := by
    rw [hstages i]
    exact BankStore.stages_reach ..
  have hsum (i : Output) : (stages i).sum = ((stages i).reaches.get 0).scaled +
      ((stages i).reaches.get 1).scaled + ((stages i).reaches.get 2).scaled + ((stages i).reaches.get 3).scaled := by
    rw [hstages i]
    exact BankStore.stages_sum ..
  have hsame (j : Output) : (stages k).reaches.get j = (stages 0).reaches.get j := by
    rw [hreach k, hreach 0, (hplace k).1, (hplace k).2]
  refine ⟨hsame, fun j => ?_, ?_, hsum k, ?_⟩
  · rw [hreach]
    exact scaledReach_le (Coverage.reach_le _ _ _) (hpresence j)
  · rw [hsum k, hsum 0, hsame, hsame, hsame, hsame]
  · rw [hstages k]
    exact BankStore.stages_weight _ _ _ _ _ _ _ _ (hpath k)

/-- Settles O60: the weights are rounded shares of 4096; every stage follows its rule; a port and a probe take the
pixel's stages from the picture shown. -/
theorem normalizedWeightsSumToOne : Obligations.NormalizedWeightsSumToOne := by
  refine ⟨fun st pic presences level path u v stages hpath hpresence hstages hplace => ?_,
    fun st pic presences level path k u v hin hu hv => st.stagesOf pic presences level path k hin hu hv,
    fun s k u v hs => ?_⟩
  · have hall := stages_weights hpath hpresence hstages hplace
    refine ⟨fun k => ?_, fun hpos => ?_⟩
    · obtain ⟨hsame, hscaled, hsums, hsum, hweight⟩ := hall k
      have hparts : ((stages k).reaches.get k).scaled ≤ (stages k).sum := by
        rw [hsum]
        match k with
        | 0 | 1 | 2 | 3 => omega
      refine ⟨by rw [hsum, hsame, hsame, hsame, hsame], ?_, hweight ▸ weightOf_le hparts,
        fun h => hweight.trans (weightOf_eq h _), fun h => hweight.trans (if_pos h), fun hown hothers => ?_⟩
      · have h0 := hscaled 0
        have h1 := hscaled 1
        have h2 := hscaled 2
        have h3 := hscaled 3
        omega
      · have halone : (stages k).sum = ((stages k).reaches.get k).scaled := by
          rw [hsum]
          match k with
          | 0 | 1 | 2 | 3 => simp [hothers]
        rw [hweight, halone, weightOf, if_neg hown.ne', Config.one]
        exact roundDiv_mul_self _ hown
    · have hweight (k : Output) : (stages k).weight =
          weightOf ((stages 0).reaches.get k).scaled (stages 0).sum := by
        obtain ⟨hsame, -, hsums, -, hweight⟩ := hall k
        rw [hweight, hsame, hsums]
      rw [hweight 0, hweight 1, hweight 2, hweight 3]
      exact weights_sum (hall 0).2.2.2.1 hpos
  · refine ⟨s.showingPicture, State.shownPicture hs, fun path => rfl, emittedCode_emitted _ _ _ _ _ _, _, rfl, rfl,
      rfl, rfl, rfl, rfl, rfl, fun hinside => ?_, fun houtside => ?_⟩
    · have hin : (decide (u < s.active.scene.rasterW) && decide (v < s.active.scene.rasterH)) = true := by
        simpa using hinside
      refine ⟨if_pos hin, if_pos hin, fun b n w hb => ?_, fun hnone => ?_⟩
      · refine (if_pos hin).trans ?_
        rw [showingBuf_of_showing hs.oneShowing hb]
        rfl
      · refine (if_pos hin).trans ?_
        rw [showingBuf_of_none hnone]
        rfl
    · have hout : ¬ (decide (u < s.active.scene.rasterW) && decide (v < s.active.scene.rasterH)) = true := by
        rw [Bool.and_eq_true, decide_eq_true_eq, decide_eq_true_eq]
        omega
      exact ⟨if_neg hout, if_neg hout, if_neg hout⟩

end Sys2Proof.Machine
end

section
/-! PROOFS. Chapter 2, a presentation frame start that does not enter STANDBY (R41): what each taker and
the walk over the takers keeps, posts and marks. -/

namespace Sys2Proof.Machine

/-! ### A start that leaves the part awake (R40, R41) -/

/-- R41: the Master Level unit's work would enter STANDBY now. -/
def State.sleepsNow (s : State) : Prop := s.mode.mode = .dimming ∧ s.master.next = 0

/-- A walk over `order` does not enter STANDBY: where it finds DIMMING, the level stays above 0. -/
def State.Awake (order : List Taker) (s : State) : Prop :=
  s.mode.mode = .dimming → .master ∈ order → s.master.target = 0 ∧ s.master.step < s.master.level

theorem Master.next_of_target_zero {m : Master} (h : m.target = 0) : m.next = m.level - m.step := by
  unfold Master.next
  rw [h]
  split
  · omega
  · split <;> omega

theorem State.masterStart_awake {s : State} (h : ¬ s.sleepsNow) :
    s.masterStart = { s with master := { s.master with level := s.master.next } } :=
  if_neg h

theorem State.take_master {s : State} (align : Bool) {t : Taker} (ht : t ≠ .master) :
    (s.take align t).master = s.master := by
  cases t with
  | master => exact absurd rfl ht
  | acquisition | write =>
    rw [State.take]
    split <;> simp
  | _ => simp [State.take]

theorem State.Awake.not_sleepsNow {order : List Taker} {s : State} (h : s.Awake order) {t : Taker}
    (hmem : t ∈ order) (ht : t = .master) : ¬ s.sleepsNow := by
  rintro ⟨hmode, hnext⟩
  obtain ⟨htarget, hlevel⟩ := h hmode (ht ▸ hmem)
  rw [Master.next_of_target_zero htarget] at hnext
  omega

theorem State.Awake.take {t : Taker} {ts : List Taker} {s : State} (h : s.Awake (t :: ts)) (hnot : t ∉ ts)
    (align : Bool) : (s.take align t).retarget.Awake ts := by
  intro hmode hmem
  have ht : t ≠ .master := fun heq => hnot (heq ▸ hmem)
  have hdimming : s.mode.mode = .dimming := by
    by_contra hne
    exact State.take_not_dimming align t hne hmode
  have hmaster := State.take_master (s := s) align ht
  refine ⟨State.targetOf_of_dimming hmode, ?_⟩
  show (s.take align t).master.step < (s.take align t).master.level
  rw [hmaster]
  exact (h hdimming (List.mem_cons_of_mem _ hmem)).2

theorem State.awake_of_not_mem {order : List Taker} (s : State) (h : .master ∉ order) : s.Awake order :=
  fun _ hmem => absurd hmem h

/-- What every taker of an awake walk keeps, the walk keeps. -/
theorem State.Awake.takes_keep {P : State → Prop} {align : Bool} {order : List Taker} {s : State}
    (h : s.Awake order) (hnodup : order.Nodup) (hs : P s)
    (hkeep : ∀ u t, P u → t ∈ order → (t = .master → ¬ u.sleepsNow) → P (u.take align t).retarget) :
    P (s.takes align order) := by
  induction order generalizing s with
  | nil => exact hs
  | cons t ts ih =>
    obtain ⟨hnot, hts⟩ := List.nodup_cons.1 hnodup
    exact ih (h.take hnot align) hts (hkeep s t hs List.mem_cons_self (h.not_sleepsNow List.mem_cons_self))
      fun u t hu ht => hkeep u t hu (List.mem_cons_of_mem _ ht)

theorem State.Awake.append_left {before after : List Taker} {s : State} (h : s.Awake (before ++ after)) :
    s.Awake before :=
  fun hmode hmem => h hmode (List.mem_append_left _ hmem)

/-- After the first part of an awake walk the rest is awake. -/
theorem State.Awake.takes {before after : List Taker} {s : State} (h : s.Awake (before ++ after))
    (hnodup : (before ++ after).Nodup) (align : Bool) : (s.takes align before).Awake after := by
  induction before generalizing s with
  | nil => exact h
  | cons t ts ih =>
    obtain ⟨hnot, hts⟩ := List.nodup_cons.1 hnodup
    exact ih (State.Awake.take (ts := ts ++ after) h hnot align) hts

/-! ### The mode and the channels -/

/-- Awake, the bank alone changes the mode. -/
theorem State.take_mode_awake {s : State} (align : Bool) {t : Taker} (h : t = .master → ¬ s.sleepsNow) :
    (s.take align t).mode =
      if t = .bank ∧ s.swapDue = true ∧ s.mode.mode = .setup then { s.mode with mode := .run } else s.mode := by
  by_cases hmode : s.mode.mode = .dimming
  · rw [if_neg fun hall => by simp [hmode] at hall]
    cases t with
    | bank =>
      rw [State.take, State.bankStart]
      split
      · rw [State.swap_mode, if_neg (by simp [hmode])]
      · rfl
    | master =>
      rw [State.take, State.masterStart_awake (h rfl)]
    | acquisition | write =>
      rw [State.take]
      split <;> simp
    | _ => simp [State.take]
  · exact State.take_mode_eq align t hmode

/-- R145: an awake walk that reaches the bank with a swap due makes SETUP RUN. -/
theorem State.Awake.takes_mode {order : List Taker} {s : State} (h : s.Awake order) (hnodup : order.Nodup)
    (align : Bool) : (s.takes align order).mode =
      if .bank ∈ order ∧ s.swapDue = true ∧ s.mode.mode = .setup then { s.mode with mode := .run }
      else s.mode := by
  by_cases hmode : s.mode.mode = .dimming
  · rw [if_neg fun hall => by simp [hmode] at hall]
    refine h.takes_keep (P := fun u => u.mode = s.mode) hnodup rfl fun u t hu _ hawake => ?_
    rw [State.retarget_mode, State.take_mode_awake align hawake, if_neg fun hall => by simp [hu, hmode] at hall, hu]
  · exact State.takes_mode align order hmode

/-- Awake, only a channel's own work changes its record. -/
theorem State.take_chan_other {s : State} (align : Bool) {t : Taker} {k : Output} (ht : t ≠ .channel k)
    (h : t = .master → ¬ s.sleepsNow) : (s.take align t).chans.get k = s.chans.get k := by
  cases t with
  | channel j =>
    rw [State.take, State.channelStart_chans]
    exact Four.get_set_other _ _ _ _ fun heq => ht (heq ▸ rfl)
  | master => rw [State.take, State.masterStart_awake (h rfl)]
  | acquisition | write =>
    rw [State.take]
    split <;> simp
  | _ => simp [State.take]

theorem State.Awake.takes_chan {order : List Taker} {s : State} (h : s.Awake order) (hnodup : order.Nodup)
    (align : Bool) {k : Output} (hk : .channel k ∉ order) :
    (s.takes align order).chans.get k = s.chans.get k :=
  h.takes_keep (P := fun u => u.chans.get k = s.chans.get k) hnodup rfl fun _ _ hu ht hawake =>
    (State.take_chan_other align (fun heq => hk (heq ▸ ht)) hawake).trans hu

/-- The links stay as sampled. -/
theorem State.takes_pins (s : State) (align : Bool) (order : List Taker) :
    (s.takes align order).pins = s.pins :=
  (State.takeAll_frame align order s).1

/-! ### The records (R2, R30, R100, R104, R142, R163) -/

/-- The records that a taker can post. -/
def takerSays (t : Taker) (b : IndBody) : Prop :=
  match t with
  | .frameStore => ∃ n, b = .slipThreshold n
  | .channel k => b.IsOutputState k
  | .bank => (∃ r, b = .bankSwapped r) ∨ b.IsInputState ∨ b = .modeChange .run
  | .master => b = .modeChange .standby ∨ b.IsInputState ∨ ∃ k, b.IsOutputState k
  | .acquisition => b.IsInputState
  | .probe => ∃ k, b = .probeReady k
  | .write => False

theorem State.take_says (s : State) (align : Bool) (t : Taker) :
    State.Tells (recordRoom t) (takerSays t) s (s.take align t) := by
  cases t with
  | frameStore => exact s.tells_selectFrame
  | channel k => exact s.tells_channelStart k
  | bank =>
    rw [State.take, State.bankStart]
    split
    · obtain ⟨bodies, hposted, hlength, hkinds⟩ := s.swap_posted
      refine ⟨_, hposted, ?_, ?_⟩
      · simp only [recordRoom, List.length_cons, List.length_append]
        split <;> simp <;> omega
      · intro b hb
        rcases List.mem_cons.1 hb with rfl | hb
        · exact .inl ⟨_, rfl⟩
        · rcases List.mem_append.1 hb with hb | hb
          · exact .inr (.inl (hkinds b hb))
          · split at hb
            · exact .inr (.inr (List.mem_singleton.1 hb))
            · exact absurd hb List.not_mem_nil
    · exact State.tells_of_eq rfl rfl
  | master =>
    rw [State.take, State.masterStart]
    dsimp only
    split
    · obtain ⟨bodies, hposted, hlength, hkinds⟩ :=
        ({ s with master := { s.master with level := s.master.next } } : State).enterStandby_posted
      refine ⟨_, hposted.after_eq rfl rfl, Nat.succ_le_succ hlength, fun b hb => ?_⟩
      rcases List.mem_cons.1 hb with rfl | hb
      · exact .inl rfl
      · exact .inr (hkinds b hb)
    · exact State.tells_of_eq rfl rfl
  | acquisition =>
    rw [State.take]
    split
    · exact State.tells_of_eq rfl rfl
    · exact (acqWork_acquisitionStart s).tells
  | probe =>
    refine s.posted_probePost.tells.mono ?_ ?_
    · split <;> simp [recordRoom]
    · split <;> simp [takerSays]
  | write =>
    rw [State.take]
    split
    · exact State.tells_of_eq (by simp) (by simp)
    · exact State.tells_of_eq rfl rfl

theorem State.take_awake_master_says {s : State} (align : Bool) (h : ¬ s.sleepsNow) :
    (s.take align .master).ind = s.ind := by
  rw [State.take, State.masterStart_awake h]

/-- How many records a walk posts at most. -/
def walkRoom (order : List Taker) : Nat := (order.map recordRoom).sum

theorem walkRoom_append (before after : List Taker) :
    walkRoom (before ++ after) = walkRoom before + walkRoom after := by
  simp [walkRoom]

theorem walkRoom_takeOrder (order : List Taker) : walkRoom (takeOrder order) = 16 :=
  ((takeOrder_perm order).map recordRoom).sum_eq.trans (by decide)

/-- The records of a walk are those of its takers. -/
theorem State.takes_says (s : State) (align : Bool) (order : List Taker) :
    State.Tells (walkRoom order) (fun b => ∃ t ∈ order, takerSays t b) s (s.takes align order) := by
  induction order generalizing s with
  | nil => exact State.tells_of_eq rfl rfl
  | cons t ts ih =>
    refine State.Tells.trans (t := (s.take align t).retarget) ?_ ?_
    · exact ((s.take_says align t).then_eq rfl rfl).mono (Nat.le_refl _)
        fun b hb => ⟨t, List.mem_cons_self, hb⟩
    · exact (ih _).mono (Nat.le_refl _) fun b ⟨u, hu, hb⟩ => ⟨u, List.mem_cons_of_mem _ hu, hb⟩

/-- Awake, the Master Level unit posts nothing. -/
theorem State.Awake.takes_says {order : List Taker} {s : State} (h : s.Awake order) (hnodup : order.Nodup)
    (align : Bool) :
    State.Tells (walkRoom order) (fun b => ∃ t ∈ order, t ≠ .master ∧ takerSays t b) s (s.takes align order) := by
  induction order generalizing s with
  | nil => exact State.tells_of_eq rfl rfl
  | cons t ts ih =>
    obtain ⟨hnot, hts⟩ := List.nodup_cons.1 hnodup
    refine State.Tells.trans (t := (s.take align t).retarget) ?_ ?_
    · by_cases ht : t = .master
      · subst ht
        refine State.tells_of_eq (State.take_awake_master_says align (h.not_sleepsNow List.mem_cons_self rfl)) ?_
        rw [State.retarget_timer, State.take, State.masterStart_awake (h.not_sleepsNow List.mem_cons_self rfl)]
      · exact ((s.take_says align t).then_eq rfl rfl).mono (Nat.le_refl _)
          fun b hb => ⟨t, List.mem_cons_self, ht, hb⟩
    · exact (ih (h.take hnot align) hts).mono (Nat.le_refl _)
        fun b ⟨u, hu, hb⟩ => ⟨u, List.mem_cons_of_mem _ hu, hb⟩

theorem State.takes_counter (s : State) (align : Bool) (order : List Taker) :
    (s.takes align order).timer.counter = s.timer.counter := by
  obtain ⟨_, hposted, _⟩ := s.takes_says align order
  exact hposted.2

/-! ### The capture flags (section 10.3) -/

/-- A full queue marks QUEUE_OVERRUN; the rest of the capture flags is what `view` looks at. -/
def IgnoresOverrun (view : CaptureFlags → Bool) : Prop := ∀ f, view { f with queueOverrun := true } = view f

theorem Indications.posted_view {view : CaptureFlags → Bool} (hview : IgnoresOverrun view) (i : Indications)
    (b : IndBody) (stamp : BitVec 32) : view (i.posted b stamp).flags = view i.flags := by
  unfold Indications.posted
  split
  · rfl
  · split
    · rfl
    · exact hview _

theorem State.Says.view_eq {view : CaptureFlags → Bool} (hview : IgnoresOverrun view) {bodies : List IndBody}
    {s t : State} (h : State.Says bodies s t) : view t.ind.flags = view s.ind.flags := by
  rw [h.1]
  generalize s.ind = i
  clear h
  induction bodies generalizing i with
  | nil => rfl
  | cons b bs ih => exact (ih _).trans (Indications.posted_view hview i b _)

theorem State.SaysInput.view_eq {view : CaptureFlags → Bool} (hview : IgnoresOverrun view) {s t : State}
    (h : State.SaysInput s t) : view t.ind.flags = view s.ind.flags := by
  obtain ⟨_, hsays, _⟩ := h
  exact hsays.view_eq hview

/-- R12: the registers that a pair writes: the staged period and the two lock counts. -/
def State.paired (staged good bad : Nat) (s : State) : State :=
  { s with acq := { s.acq with good := good, bad := bad }, timer := { s.timer with staged := staged } }

/-- R12: the staged period of a pair. -/
def State.pairStaged (s : State) (e : Int) : Nat :=
  stagedPeriod (s.acq.target.getD 0) s.acq.controls.cadence.n e

/-- R13: the count of good pairs after a pair in LOCKING. -/
def State.goodAfter (s : State) (e : Int) : Nat :=
  if e.natAbs ≤ s.acq.target.getD 0 / 64 then s.acq.good + 1 else 0

/-- R14: the count of bad pairs after a pair in LOCKED. -/
def State.badAfter (s : State) (e : Int) : Nat :=
  if s.acq.target.getD 0 / 16 < e.natAbs then s.acq.bad + 1 else 0

theorem State.pair_locking {s : State} (h : s.acq.state = .locking) (start cadence : Nat) :
    s.pair start cadence =
      if 8 ≤ s.goodAfter (start - cadence) then
        (s.paired (s.pairStaged (start - cadence)) (s.goodAfter (start - cadence)) s.acq.bad).moveTo .locked []
      else s.paired (s.pairStaged (start - cadence)) (s.goodAfter (start - cadence)) s.acq.bad := by
  unfold State.pair
  dsimp only
  split
  · rfl
  · next hlocked => cases h.symm.trans hlocked
  · next hnot _ => exact absurd h hnot

theorem State.pair_locked {s : State} (h : s.acq.state = .locked) (start cadence : Nat) :
    s.pair start cadence =
      if 2 ≤ s.badAfter (start - cadence) then
        (s.paired (s.pairStaged (start - cadence)) s.acq.good (s.badAfter (start - cadence))).moveTo .locking []
      else s.paired (s.pairStaged (start - cadence)) s.acq.good (s.badAfter (start - cadence)) := by
  unfold State.pair
  dsimp only
  split
  · next hlocking => cases h.symm.trans hlocking
  · rfl
  · next hnot => exact absurd h hnot

theorem State.pair_unlocked {s : State} (h : s.acq.state.isLocked = false) (start cadence : Nat) :
    s.pair start cadence = s.paired (s.pairStaged (start - cadence)) s.acq.good s.acq.bad := by
  unfold State.pair
  dsimp only
  split
  · next hlocking => simp [hlocking, AcqState.isLocked] at h
  · next hlocked => simp [hlocked, AcqState.isLocked] at h
  · rfl

theorem State.saysInput_pair {s u : State} (hind : u.ind = s.ind) (hcounter : u.timer.counter = s.timer.counter)
    (start cadence : Nat) : State.SaysInput s (u.pair start cadence) := by
  have hmove (new : AcqState) (staged good bad : Nat) : State.SaysInput s ((u.paired staged good bad).moveTo new []) :=
    State.saysInput_moveTo (u := u.paired staged good bad) hind hcounter _ _
  have hstay (staged good bad : Nat) : State.SaysInput s (u.paired staged good bad) :=
    State.saysInput_of_eq hind hcounter
  by_cases hlocking : u.acq.state = .locking
  · rw [State.pair_locking hlocking]
    split
    · exact hmove _ _ _ _
    · exact hstay _ _ _
  · by_cases hlocked : u.acq.state = .locked
    · rw [State.pair_locked hlocked]
      split
      · exact hmove _ _ _ _
      · exact hstay _ _ _
    · rw [State.pair_unlocked (by simp [AcqState.isLocked, hlocking, hlocked])]
      exact hstay _ _ _

theorem State.saysInput_acquisitionStart (s : State) : State.SaysInput s s.acquisitionStart := by
  unfold State.acquisitionStart State.positionZero
  repeat' split
  · exact State.saysInput_pair rfl rfl _ _
  · exact State.saysInput_of_eq rfl rfl
  · exact State.saysInput_of_eq rfl rfl

theorem State.swap_view {view : CaptureFlags → Bool} (hview : IgnoresOverrun view) (s : State) :
    view s.swap.ind.flags = view s.ind.flags := by
  have hmode (u : State) (hu : view u.ind.flags = view s.ind.flags) :
      view (if u.mode.mode = .setup then u.changeMode .run else u).ind.flags = view s.ind.flags := by
    split
    · rw [State.changeMode_eq]
      exact (Indications.posted_view hview _ _ _).trans hu
    · exact hu
  have hswapped : view (({ s with banks := s.banks.swapped } : State).post
      (.bankSwapped s.banks.swapped.revision)).ind.flags = view s.ind.flags := by
    rw [State.post_ind]
    exact Indications.posted_view hview _ _ _
  unfold State.swap
  dsimp only
  split
  · exact hmode _ (((State.saysInput_newCanvas _).view_eq hview).trans hswapped)
  · exact hmode _ hswapped

theorem State.changeChan_view {view : CaptureFlags → Bool} (hview : IgnoresOverrun view) {k : Output}
    (hk : ∀ f : CaptureFlags, view { f with outputLost := f.outputLost.set k true } = view f) (s : State)
    (c : Channel) (cause : Cause) : view (s.changeChan k c cause).ind.flags = view s.ind.flags := by
  unfold State.changeChan
  rw [State.post_ind, Indications.posted_view hview]
  split
  · exact hk _
  · rfl

theorem State.channelStart_view {view : CaptureFlags → Bool} (hview : IgnoresOverrun view) {k : Output}
    (hk : ∀ f : CaptureFlags, view { f with outputLost := f.outputLost.set k true } = view f) (s : State) :
    view (s.channelStart k).ind.flags = view s.ind.flags := by
  have hsample : view (s.chanSample k (s.pins.linkGood.get k)).ind.flags = view s.ind.flags := by
    unfold State.chanSample
    dsimp only
    split
    · rfl
    · exact s.changeChan_view hview hk _ _
  have hpresence (u : State) : view (u.chanPresence k).ind.flags = view u.ind.flags := by
    unfold State.chanPresence
    dsimp only
    split
    · exact u.changeChan_view hview hk _ _
    · rfl
  unfold State.channelStart
  split
  · rfl
  · exact (hpresence _).trans hsample

theorem State.countSlip_view {view : CaptureFlags → Bool} (hview : IgnoresOverrun view)
    (hslip : ∀ f : CaptureFlags, view { f with slip := true } = view f) (s : State) :
    view s.countSlip.ind.flags = view s.ind.flags := by
  unfold State.countSlip
  dsimp only
  split
  · rw [State.post_ind]
    exact (Indications.posted_view hview _ _ _).trans (hslip _)
  · exact hslip _

theorem State.selectFrame_view {view : CaptureFlags → Bool} (hview : IgnoresOverrun view)
    (hslip : ∀ f : CaptureFlags, view { f with slip := true } = view f) (s : State) :
    view s.selectFrame.ind.flags = view s.ind.flags := by
  unfold State.selectFrame State.showExpected
  dsimp only
  repeat' split
  all_goals simp [State.countSlip_view hview hslip]

/-- The capture flags of a taker's own are no part of the view. -/
def takerSpares (view : CaptureFlags → Bool) : Taker → Prop
  | .frameStore => ∀ f : CaptureFlags, view { f with slip := true } = view f
  | .channel k => ∀ f : CaptureFlags, view { f with outputLost := f.outputLost.set k true } = view f
  | _ => True

theorem State.take_view {view : CaptureFlags → Bool} (hview : IgnoresOverrun view) {s : State} (align : Bool)
    {t : Taker} (ht : takerSpares view t) (h : t = .master → ¬ s.sleepsNow) :
    view (s.take align t).ind.flags = view s.ind.flags := by
  cases t with
  | frameStore => exact s.selectFrame_view hview ht
  | channel k => exact s.channelStart_view hview ht
  | bank =>
    rw [State.take, State.bankStart]
    split
    · exact s.swap_view hview
    · rfl
  | master => rw [State.take_awake_master_says align (h rfl)]
  | acquisition =>
    rw [State.take]
    split
    · rfl
    · exact s.saysInput_acquisitionStart.view_eq hview
  | probe =>
    rw [State.take, State.probePost]
    split
    · rw [State.post_ind]
      exact Indications.posted_view hview _ _ _
    · rfl
  | write =>
    rw [State.take]
    split <;> simp

theorem State.Awake.takes_view {view : CaptureFlags → Bool} (hview : IgnoresOverrun view) {order : List Taker}
    {s : State} (h : s.Awake order) (hnodup : order.Nodup) (align : Bool)
    (hspare : ∀ t ∈ order, takerSpares view t) :
    view (s.takes align order).ind.flags = view s.ind.flags :=
  h.takes_keep (P := fun u => view u.ind.flags = view s.ind.flags) hnodup rfl fun _ t hu ht hawake =>
    (State.take_view hview align (hspare t ht) hawake).trans hu

end Sys2Proof.Machine
end

section
/-! PROOFS. Chapter 6, a channel at a presentation frame start (R105 to R110): its record by the table of
samples, its port, its flag and its record, in whatever order the takers come (log 2). -/

namespace Sys2Proof.Machine

/-! ### The record of one channel (R105 to R109) -/

/-- R106 to R109: the work of a start is the table of samples. -/
theorem Channel.faded_sampled {c : Channel} (good : Bool) (h : c.controls.InRange) :
    ((c.sampled good).faded.state, (c.sampled good).faded.presence, (c.sampled good).faded.goodRun,
      (c.sampled good).faded.badRun) = Spec.channelAfter good c := by
  obtain ⟨hloss, -⟩ := h.lossConfirm
  obtain ⟨hsettle, -⟩ := h.settle
  have hnosettle : ¬ c.controls.settle ≤ 0 := by omega
  have hnoloss : ¬ c.controls.lossConfirm ≤ 0 := by omega
  unfold Channel.faded Channel.sampled Spec.channelAfter Channel.sampleChange Channel.countSample
  cases hstate : c.state with
  | disabled => simp [hstate, Channel.nextPresence]
  | acquiring =>
    cases good with
    | true => by_cases hs : c.controls.settle ≤ min 255 (c.goodRun + 1) <;> simp [hs, Channel.nextPresence]
    | false => simp [hnosettle, Channel.nextPresence]
  | active =>
    cases good with
    | true => simp [hnoloss, Channel.nextPresence]
    | false => by_cases hs : c.controls.lossConfirm ≤ min 15 (c.badRun + 1) <;> simp [hs, Channel.nextPresence]
  | retiring =>
    cases good with
    | true =>
      by_cases hs : c.presence ≤ c.controls.fall <;>
        simp [hs, Channel.nextPresence, Nat.sub_eq_zero_iff_le]
    | false => simp [Channel.nextPresence]
  | lost =>
    cases good with
    | true =>
      by_cases hs : c.controls.settle ≤ min 255 (c.goodRun + 1) <;> cases hjoin : c.controls.autoRejoin <;>
        simp [hs, hjoin, Channel.nextPresence]
    | false => simp [hnosettle, Channel.nextPresence]
  | parked =>
    cases good with
    | true => simp [hnoloss, Channel.nextPresence]
    | false => by_cases hs : c.controls.lossConfirm ≤ min 15 (c.badRun + 1) <;> simp [hs, Channel.nextPresence]

/-- R104: the record of a start's change of state, with its cause. -/
theorem Channel.records_eq {c : Channel} (k : Output) (good : Bool) (h : c.controls.InRange) :
    c.records k good =
      if (c.sampled good).faded.state = c.state then []
      else [.outputState k (c.sampled good).faded.state (Spec.causeOf good c.state)] := by
  obtain ⟨hloss, -⟩ := h.lossConfirm
  obtain ⟨hsettle, -⟩ := h.settle
  have hnosettle : ¬ c.controls.settle ≤ 0 := by omega
  have hnoloss : ¬ c.controls.lossConfirm ≤ 0 := by omega
  unfold Channel.records Channel.faded Channel.sampled Channel.sampleChange Channel.countSample
  cases hstate : c.state with
  | disabled => simp [hstate]
  | acquiring =>
    cases good with
    | true => by_cases hs : c.controls.settle ≤ min 255 (c.goodRun + 1) <;> simp [hs, Spec.causeOf]
    | false => simp [hnosettle]
  | active =>
    cases good with
    | true => simp [hnoloss]
    | false => by_cases hs : c.controls.lossConfirm ≤ min 15 (c.badRun + 1) <;> simp [hs, Spec.causeOf]
  | retiring =>
    cases good with
    | true =>
      by_cases hs : c.presence ≤ c.controls.fall <;>
        simp [hs, Channel.nextPresence, Nat.sub_eq_zero_iff_le, Spec.causeOf]
    | false => simp [Spec.causeOf]
  | lost =>
    cases good with
    | true =>
      by_cases hs : c.controls.settle ≤ min 255 (c.goodRun + 1) <;> cases hjoin : c.controls.autoRejoin <;>
        simp [hs, hjoin, Spec.causeOf]
    | false => simp [hnosettle]
  | parked =>
    cases good with
    | true => simp [hnoloss]
    | false => by_cases hs : c.controls.lossConfirm ≤ min 15 (c.badRun + 1) <;> simp [hs, Spec.causeOf]

/-- R107: LOST is entered by the sample alone, and never again from itself. -/
theorem Channel.sampled_lost {c : Channel} (good : Bool) :
    (c.sampled good).faded.state = .lost ↔ (c.sampled good).state = .lost := by
  unfold Channel.faded
  split
  · next h => simp [h.1]
  · exact Iff.rfl

/-- R119: the port of a channel in RUN, SETUP or DIMMING. -/
theorem Channel.portFor_eq {c : Channel} {mode : ModeState} {home : HomeMode}
    (h : mode.mode = home.toMode ∨ mode.mode = .dimming ∧ mode.remembered = home) :
    c.portFor mode = Spec.portOf home c.state c.controls := by
  have hcode : (c.state ≠ .active ∧ c.state ≠ .retiring) ↔ ¬ (c.state = .active ∨ c.state = .retiring) :=
    not_or.symm
  unfold Channel.portFor Spec.portOf
  simp only [hcode, ite_not]
  split
  · cases hpath : c.controls.path with
    | normal =>
      rcases h with h | ⟨h, hhome⟩
      · cases home <;> simp [h, HomeMode.toMode]
      · cases home <;> simp [h, hhome]
    | flatWarp | unblended | pattern => simp
  · rfl

/-! ### The flag of one channel (R104) -/

theorem Channel.sampleChange_lost {good : Bool} {c : Channel} {cause : Cause}
    (h : c.sampleChange good = some (.lost, cause)) : c.state ≠ .lost := by
  intro hstate
  simp only [Channel.sampleChange, hstate] at h
  split at h
  · cases hjoin : c.controls.autoRejoin <;> simp [hjoin] at h
  · cases h

theorem ignoresOverrun_outputLost (k : Output) : IgnoresOverrun fun f => f.outputLost.get k :=
  fun _ => rfl

theorem State.changeChan_lost (s : State) (k : Output) (c : Channel) (cause : Cause) :
    (s.changeChan k c cause).ind.flags.outputLost.get k =
      (s.ind.flags.outputLost.get k || decide (c.state = .lost)) := by
  unfold State.changeChan
  rw [State.post_ind, Indications.posted_view (ignoresOverrun_outputLost k)]
  split
  · next h =>
    simp only [h, decide_true, Bool.or_true]
    exact Four.get_set_same _ _ _
  · next h => simp [h]

/-- R104: OUTPUT_LOST is set exactly on entry to LOST. -/
theorem State.channelStart_lost (s : State) (k : Output) (hmode : s.mode.mode ≠ .standby) :
    (s.channelStart k).ind.flags.outputLost.get k =
      (s.ind.flags.outputLost.get k ||
        (decide (((s.chan k).sampled (s.pins.linkGood.get k)).faded.state = .lost) &&
          decide ((s.chan k).state ≠ .lost))) := by
  have hsample : (s.chanSample k (s.pins.linkGood.get k)).ind.flags.outputLost.get k =
      (s.ind.flags.outputLost.get k ||
        (decide (((s.chan k).sampled (s.pins.linkGood.get k)).state = .lost) &&
          decide ((s.chan k).state ≠ .lost))) := by
    unfold State.chanSample Channel.sampled
    dsimp only
    cases hchange : ((s.chan k).countSample (s.pins.linkGood.get k)).sampleChange (s.pins.linkGood.get k) with
    | none =>
      by_cases hlost : (s.chan k).state = .lost <;> simp [hlost]
    | some change =>
      obtain ⟨st, cause⟩ := change
      dsimp only
      rw [State.changeChan_lost]
      by_cases hlost : st = .lost
      · have hnot := Channel.sampleChange_lost (hlost ▸ hchange)
        rw [Channel.countSample_state] at hnot
        simp [hlost, hnot]
      · simp [hlost]
  have hpresence (u : State) : (u.chanPresence k).ind.flags.outputLost.get k = u.ind.flags.outputLost.get k := by
    unfold State.chanPresence
    dsimp only
    split
    · rw [State.changeChan_lost]
      simp
    · rfl
  have hiff := (s.chan k).sampled_lost (s.pins.linkGood.get k)
  rw [State.channelStart, if_neg hmode]
  show ((s.chanSample k (s.pins.linkGood.get k)).chanPresence k).ind.flags.outputLost.get k = _
  rw [hpresence, hsample]
  simp only [hiff]

/-! ### The walk (R105) -/

theorem State.awake_of_mode {order : List Taker} {s : State} (h : s.mode.mode ≠ .dimming) : s.Awake order :=
  fun hmode => absurd hmode h

/-- The mode that a taker of an awake walk finds: the one before the walk, or RUN after a swap out of SETUP. -/
def State.MayFind (s : State) (mode : ModeState) : Prop :=
  mode = s.mode ∨ s.swapDue = true ∧ s.mode.mode = .setup ∧ mode = { s.mode with mode := .run }

theorem State.MayFind.eq {s : State} {mode : ModeState} (h : s.MayFind mode) (hmode : s.mode.mode ≠ .setup) :
    mode = s.mode :=
  h.resolve_right fun hswap => hmode hswap.2.1

theorem State.Awake.mayFind {order : List Taker} {s : State} (h : s.Awake order) (hnodup : order.Nodup)
    (align : Bool) : s.MayFind (s.takes align order).mode := by
  rw [h.takes_mode hnodup align]
  split
  · next hswap => exact .inr ⟨hswap.2.1, hswap.2.2, rfl⟩
  · exact .inl rfl

/-- A channel in an awake walk does its work once, in the mode of its turn. -/
theorem State.Awake.takes_chan_own {order : List Taker} {s : State} (h : s.Awake order) (hnodup : order.Nodup)
    (align : Bool) {k : Output} (hk : .channel k ∈ order) : ∃ mode, s.MayFind mode ∧
      (s.takes align order).chans.get k = (s.chans.get k).started (s.pins.linkGood.get k) mode := by
  obtain ⟨before, after, rfl⟩ := List.append_of_mem hk
  have hparts := hnodup
  rw [List.nodup_append, List.nodup_cons] at hparts
  obtain ⟨hbefore, ⟨hafter, hnodup'⟩, hdisjoint⟩ := hparts
  have hturn := h.takes hnodup align
  have hrest := hturn.take hafter align
  refine ⟨_, h.append_left.mayFind hbefore align, ?_⟩
  rw [State.takes_append, State.takes_cons, hrest.takes_chan hnodup' align hafter, State.retarget_chans, State.take,
    State.channelStart_chans, Four.get_set_same, State.takes_pins, State.chan,
    h.append_left.takes_chan hbefore align fun hmem => hdisjoint _ hmem _ List.mem_cons_self rfl]

/-- Every other taker leaves a channel's OUTPUT_LOST flag. -/
theorem takerSpares_outputLost {t : Taker} {k : Output} (ht : t ≠ .channel k) :
    takerSpares (fun f => f.outputLost.get k) t := by
  cases t with
  | channel j => exact fun _ => Four.get_set_other _ _ _ _ fun heq => ht (heq ▸ rfl)
  | frameStore => exact fun _ => rfl
  | _ => trivial

/-- Awake, no other taker posts a channel's OUTPUT_STATE. -/
theorem ofOutput_of_says {t : Taker} {b : IndBody} {k : Output} (ht : t ≠ .channel k) (hmaster : t ≠ .master)
    (h : takerSays t b) : Spec.ofOutput k b = false := by
  cases t with
  | channel j =>
    obtain ⟨st, cause, rfl⟩ := h
    have hjk : j ≠ k := fun heq => ht (heq ▸ rfl)
    simp [Spec.ofOutput, hjk]
  | frameStore | probe =>
    obtain ⟨n, rfl⟩ := h
    rfl
  | bank => rcases h with ⟨r, rfl⟩ | ⟨st, format, rfl⟩ | rfl <;> rfl
  | acquisition =>
    obtain ⟨st, format, rfl⟩ := h
    rfl
  | master => exact absurd rfl hmaster
  | write => exact h.elim

theorem filter_ofOutput_of_silent {order : List Taker} {k : Output} (hk : .channel k ∉ order)
    {bodies : List IndBody} (h : ∀ b ∈ bodies, ∃ t ∈ order, t ≠ .master ∧ takerSays t b) :
    bodies.filter (Spec.ofOutput k) = [] := by
  refine List.filter_eq_nil_iff.2 fun b hb => ?_
  obtain ⟨t, ht, hmaster, hsays⟩ := h b hb
  simp [ofOutput_of_says (fun heq => hk (heq ▸ ht)) hmaster hsays]

/-- Awake, the records of one output's state are the channel's own, and so is its OUTPUT_LOST flag. -/
theorem State.Awake.takes_output {order : List Taker} {s : State} (h : s.Awake order) (hnodup : order.Nodup)
    (hmode : s.mode.mode ≠ .standby) {k : Output} (hk : .channel k ∈ order) :
    (s.takes false order).ind.flags.outputLost.get k = (s.ind.flags.outputLost.get k ||
      (decide (((s.chans.get k).sampled (s.pins.linkGood.get k)).faded.state = .lost) &&
        decide ((s.chans.get k).state ≠ .lost))) ∧
    ∃ bodies, State.Posted bodies s (s.takes false order) ∧ bodies.length ≤ walkRoom order ∧
      bodies.filter (Spec.ofOutput k) = (s.chans.get k).records k (s.pins.linkGood.get k) := by
  obtain ⟨before, after, rfl⟩ := List.append_of_mem hk
  have hparts := hnodup
  rw [List.nodup_append, List.nodup_cons] at hparts
  obtain ⟨hbefore, ⟨hafter, hnodup'⟩, hdisjoint⟩ := hparts
  have hnot : Taker.channel k ∉ before := fun hmem => hdisjoint _ hmem _ List.mem_cons_self rfl
  have hturn := h.takes hnodup false
  have hrest := hturn.take hafter false
  have hchan : (s.takes false before).chan k = s.chans.get k := h.append_left.takes_chan hbefore false hnot
  have hpins := s.takes_pins false before
  have hawake : (s.takes false before).mode.mode ≠ .standby := by
    rcases h.append_left.mayFind hbefore false with hfound | ⟨-, -, hfound⟩
    · rwa [hfound]
    · simp [hfound]
  rw [State.takes_append, State.takes_cons]
  constructor
  · rw [hrest.takes_view (ignoresOverrun_outputLost k) hnodup' false
      fun t ht => takerSpares_outputLost fun heq => hafter (heq ▸ ht)]
    show ((s.takes false before).channelStart k).ind.flags.outputLost.get k = _
    rw [State.channelStart_lost _ k hawake, hchan, hpins,
      h.append_left.takes_view (ignoresOverrun_outputLost k) hbefore false
        fun t ht => takerSpares_outputLost fun heq => hnot (heq ▸ ht)]
  · obtain ⟨first, hfirst, hfew, hkinds⟩ := h.append_left.takes_says hbefore false
    obtain ⟨last, hlast, hfew', hkinds'⟩ := hrest.takes_says hnodup' false
    have hown := (s.takes false before).posted_channelStart k hawake
    rw [hchan, hpins] at hown
    have hone := (s.chans.get k).records_few k (s.pins.linkGood.get k)
    refine ⟨_, hfirst.trans (State.Posted.trans (hown.then_eq rfl rfl) hlast), ?_, ?_⟩
    · have hroom : walkRoom (.channel k :: after) = 1 + walkRoom after := by simp [walkRoom, recordRoom]
      rw [walkRoom_append, hroom, List.length_append, List.length_append]
      omega
    · rw [List.filter_append, List.filter_append,
        filter_ofOutput_of_silent hnot hkinds, filter_ofOutput_of_silent hafter hkinds', List.nil_append,
        List.append_nil, List.filter_eq_self.2]
      intro b hb
      obtain ⟨st, cause, rfl⟩ := hone.2 b hb
      simp [Spec.ofOutput]

end Sys2Proof.Machine
end

section
/-! PROOFS. Chapters 2, 6 and 8, the timer's own start (R35), the start that completes a DIMMING (R41, R126),
and the channels at both (R105 to R110). -/

namespace Sys2Proof.Machine

/-! ### The timer advances (R34, R35, R10) -/

/-- R35: the timer has advanced, and the group base is handed. -/
def State.begun (s : State) : State :=
  State.handBase { s with timer := { s.timer with
    lastStart := s.timer.lastStart + s.timer.current
    current := s.timer.staged
    position := nextPosition s.timer.position s.acq.controls.cadence.n
    counter := s.timer.counter + 1 } }

theorem exec_presentationFrameStart {s : State} (env : Env) (h : s.timer.running = true) :
    exec (.presentationFrameStart env) s = .next (s.begun.deliver false env) :=
  congrArg Host.Outcome.next (if_pos h)

theorem exec_presentationFrameStart_stopped {s : State} (env : Env) (h : s.timer.running = false) :
    exec (.presentationFrameStart env) s = .next s :=
  congrArg Host.Outcome.next (if_neg (by simp [h]))

@[simp] theorem State.begun_frame (s : State) :
    s.begun.pins = s.pins ∧ s.begun.acq = s.acq ∧ s.begun.master = s.master ∧ s.begun.chans = s.chans ∧
    s.begun.banks = s.banks ∧ s.begun.profiles = s.profiles ∧ s.begun.mode = s.mode ∧ s.begun.link = s.link ∧
    s.begun.ind = s.ind ∧ s.begun.probe = s.probe ∧ s.begun.free = s.free := by
  simp [State.begun]

theorem State.begun_timer (s : State) : s.begun.timer = { s.timer with
    lastStart := s.timer.lastStart + s.timer.current
    current := s.timer.staged
    position := nextPosition s.timer.position s.acq.controls.cadence.n
    counter := s.timer.counter + 1 } := by
  simp [State.begun]

theorem Spec.swaps_eq (s : State) : Spec.swaps s = s.swapDue := by
  unfold Spec.swaps State.swapDue Ctl.isStoring
  cases s.profiles.ctl <;> rfl

/-- The relation between a start's records and the state before it. -/
theorem Spec.Posts.of_ind {stamp : BitVec 32} {kind : Nat} {which : IndBody → Bool} {bodies : List IndBody}
    {s u t : State} (h : Spec.Posts stamp kind which bodies u t) (hind : u.ind = s.ind) :
    Spec.Posts stamp kind which bodies s t := by
  unfold Spec.Posts at h ⊢
  rwa [hind] at h

/-! ### The start that completes a DIMMING (R41, R126) -/

theorem Spec.sleeps_iff (s : State) :
    Spec.sleeps s = true ↔ s.mode.mode = .dimming ∧ s.master.level ≤ s.master.step := by
  simp [Spec.sleeps]

/-- A start that does not complete a DIMMING is awake. -/
theorem State.begun_awake {s : State} (hfollows : s.mode.mode = .dimming → s.TargetFollows)
    (hsleeps : Spec.sleeps s = false) (env : Env) (order : List Taker) :
    (s.begun.linked env).Awake order := by
  intro hmode _
  have hdimming : s.mode.mode = .dimming := by simpa [State.linked] using hmode
  have htarget : s.master.target = 0 := (hfollows hdimming).trans (State.targetOf_of_dimming hdimming)
  have hlevel : ¬ s.master.level ≤ s.master.step := by
    intro hle
    rw [(Spec.sleeps_iff s).2 ⟨hdimming, hle⟩] at hsleeps
    cases hsleeps
  simp only [State.linked, State.begun_frame]
  exact ⟨htarget, not_le.1 hlevel⟩

/-- R41, R167: the Master Level unit brings the level to 0, and every block takes the entry to STANDBY. -/
def State.fallen (s : State) : State :=
  State.retarget (State.enterStandby { s with master := { s.master with level := s.master.next } })

/-- A walk in DIMMING that the master level cannot stay above 0 in: the takers before the Master Level unit leave
mode and level, and its turn enters STANDBY. -/
theorem State.takes_asleep {s : State} {order : List Taker} (hmode : s.mode.mode = .dimming)
    (htarget : s.master.target = 0) (hlevel : s.master.level ≤ s.master.step) (hnodup : order.Nodup)
    (hmem : .master ∈ order) (align : Bool) : ∃ before after, order = before ++ .master :: after ∧
      .master ∉ before ∧ (s.takes align before).mode = s.mode ∧ (s.takes align before).master = s.master ∧
      s.takes align order = ((s.takes align before).fallen).takes align after := by
  obtain ⟨before, after, rfl⟩ := List.append_of_mem hmem
  rw [List.nodup_append, List.nodup_cons] at hnodup
  obtain ⟨hbefore, -, hdisjoint⟩ := hnodup
  have hnot : Taker.master ∉ before := fun hin => hdisjoint _ hin _ List.mem_cons_self rfl
  have hkept : (s.takes align before).mode = s.mode ∧ (s.takes align before).master = s.master := by
    refine (s.awake_of_not_mem hnot).takes_keep (P := fun u => u.mode = s.mode ∧ u.master = s.master) hbefore
      ⟨rfl, rfl⟩ fun u t hu ht hawake => ?_
    have hmode' : (u.take align t).mode = s.mode := by
      rw [State.take_mode_awake align hawake, if_neg fun hall => by simp [hu.1, hmode] at hall, hu.1]
    have hmaster : (u.take align t).master = s.master := by
      rw [State.take_master align fun heq => hnot (heq ▸ ht), hu.2]
    refine ⟨hmode', ?_⟩
    show { (u.take align t).master with target := (u.take align t).targetOf } = s.master
    rw [hmaster, State.targetOf_of_dimming (s := u.take align t) (by rw [hmode', hmode]), ← htarget]
  obtain ⟨hmode', hmaster⟩ := hkept
  have hsleeps : (s.takes align before).sleepsNow := by
    refine ⟨by rw [hmode', hmode], ?_⟩
    rw [hmaster, Master.next_of_target_zero htarget]
    omega
  refine ⟨before, after, rfl, hnot, hmode', hmaster, ?_⟩
  rw [State.takes_append, State.takes_cons, State.take, State.masterStart]
  exact congrArg (fun u => (State.retarget u).takes align after) (if_pos hsleeps)

/-- R126: the entry to STANDBY puts every channel to sleep. -/
theorem State.enterStandby_chan (s : State) (k : Output) :
    s.enterStandby.chans.get k = (s.chans.get k).asleep := by
  unfold State.enterStandby
  match k with
  | 0 | 1 | 2 | 3 => simp [State.chanStandby_chans, State.chan, Four.get_set_other]

theorem State.enterStandby_mode (s : State) : s.enterStandby.mode = { s.mode with mode := .standby } := by
  simp [State.enterStandby]

/-! ### A channel at the start that completes a DIMMING (R126, log 21) -/

/-- A channel's turn comes before the entry to STANDBY or after it. -/
theorem State.takes_asleep_chan {s : State} {order : List Taker} (hmode : s.mode.mode = .dimming)
    (htarget : s.master.target = 0) (hlevel : s.master.level ≤ s.master.step) (hnodup : order.Nodup)
    (hmem : .master ∈ order) {k : Output} (hk : .channel k ∈ order) :
    (s.takes false order).chans.get k =
      ((s.chans.get k).started (s.pins.linkGood.get k) s.mode).asleep ∨
    (s.takes false order).chans.get k =
      ((s.chans.get k).asleep).started (s.pins.linkGood.get k) { s.mode with mode := .standby } := by
  obtain ⟨before, after, rfl, hnot, hmode', -, hwalk⟩ :=
    State.takes_asleep hmode htarget hlevel hnodup hmem false
  rw [List.nodup_append, List.nodup_cons] at hnodup
  obtain ⟨hbefore, ⟨-, hafter⟩, hdisjoint⟩ := hnodup
  have hawake := s.awake_of_not_mem hnot
  have hmode'' : (s.takes false before).fallen.mode = { s.mode with mode := .standby } := by
    rw [State.fallen, State.retarget_mode, State.enterStandby_mode, hmode']
  have hawake' : (s.takes false before).fallen.Awake after := State.awake_of_mode (by simp [hmode''])
  have hpins : (s.takes false before).fallen.pins = s.pins := by
    simp [State.fallen, State.takes_pins]
  have hchan : (s.takes false before).fallen.chans.get k = ((s.takes false before).chans.get k).asleep :=
    State.enterStandby_chan _ k
  rw [hwalk]
  rcases List.mem_append.1 hk with hk | hk
  · have hlate : Taker.channel k ∉ after := fun hin => hdisjoint _ hk _ (List.mem_cons_of_mem _ hin) rfl
    obtain ⟨mode, hfound, hown⟩ := hawake.takes_chan_own hbefore false hk
    rw [hfound.eq (by simp [hmode])] at hown
    rw [hawake'.takes_chan hafter false hlate, hchan, hown]
    exact .inl rfl
  · rcases List.mem_cons.1 hk with heq | hk
    · cases heq
    · have hearly : Taker.channel k ∉ before := fun hin => hdisjoint _ hin _ (List.mem_cons_of_mem _ hk) rfl
      obtain ⟨mode, hfound, hown⟩ := hawake'.takes_chan_own hafter false hk
      rw [hfound.eq (by simp [hmode'']), hmode''] at hown
      rw [hown, hchan, hawake.takes_chan hbefore false hearly, hpins]
      exact .inr rfl

theorem Spec.channelAfter_disabled {good : Bool} {c : Channel} (h : (Spec.channelAfter good c).1 = .disabled) :
    (Spec.channelAfter good c).2.1 = 0 ∧ (c.state = .disabled ∨ c.state = .retiring) := by
  unfold Spec.channelAfter at h ⊢
  cases hstate : c.state with
  | disabled => simp
  | retiring =>
    rw [hstate] at h
    cases good with
    | true =>
      dsimp only at h ⊢
      split
      · simp
      · next hle => rw [if_neg hle] at h; cases h
    | false => simp
  | acquiring | active | lost | parked =>
    rw [hstate] at h
    cases good with
    | true =>
      dsimp only at h
      repeat' split at h
      all_goals cases h
    | false =>
      dsimp only at h
      repeat' split at h
      all_goals cases h

theorem Spec.channelAfter_of_disabled {good : Bool} {c : Channel} (h : c.state = .disabled) :
    (Spec.channelAfter good c).1 = .disabled := by
  simp [Spec.channelAfter, h]

theorem Channel.started_awake {c : Channel} (good : Bool) {mode : ModeState} (h : mode.mode ≠ .standby) :
    c.started good mode = ((c.sampled good).faded).latch mode :=
  if_neg h

theorem Channel.started_asleep {c : Channel} (good : Bool) {mode : ModeState} (h : mode.mode = .standby) :
    c.started good mode = (c.countSample good).latch mode :=
  if_pos h

theorem Channel.asleep_of_disabled {c : Channel} (h : c.state = .disabled) :
    c.asleep = { c with framePresence := 0, port := .code0 } := by
  simp [Channel.asleep, h]

theorem Channel.asleep_of_used {c : Channel} (h : c.state ≠ .disabled) :
    c.asleep = { c with
      state := .acquiring, presence := 0, goodRun := 0, badRun := 0, framePresence := 0, port := .code0 } := by
  unfold Channel.asleep
  split
  · next hdisabled => exact absurd hdisabled h
  · rfl

theorem Channel.countSample_presence (good : Bool) (c : Channel) : (c.countSample good).presence = c.presence := by
  unfold Channel.countSample
  repeat' split
  all_goals rfl

/-- R126: a channel put to sleep that then counts its sample. -/
theorem Channel.asleep_started {c : Channel} (good : Bool) {mode : ModeState} (hmode : mode.mode = .standby)
    (hdark : c.state = .disabled → c.presence = 0) :
    (c.asleep.started good mode).state = (if c.state = .disabled then .disabled else .acquiring) ∧
    (c.asleep.started good mode).presence = 0 ∧ (c.asleep.started good mode).framePresence = 0 ∧
    (c.asleep.started good mode).port = .code0 := by
  have hasleep : c.asleep.state = (if c.state = .disabled then .disabled else .acquiring) ∧
      c.asleep.presence = 0 := by
    by_cases hstate : c.state = .disabled
    · rw [Channel.asleep_of_disabled hstate, if_pos hstate]
      exact ⟨hstate, hdark hstate⟩
    · rw [Channel.asleep_of_used hstate, if_neg hstate]
      exact ⟨rfl, rfl⟩
  rw [Channel.started_asleep good hmode]
  refine ⟨?_, ?_, ?_, ?_⟩
  · exact (Channel.countSample_state good _).trans hasleep.1
  · exact (Channel.countSample_presence good _).trans hasleep.2
  · exact (Channel.countSample_presence good _).trans hasleep.2
  · show (c.asleep.countSample good).portFor mode = .code0
    unfold Channel.portFor
    rw [Channel.countSample_state, hasleep.1, if_neg]
    by_cases hstate : c.state = .disabled <;> simp [hstate]

/-- R126: a channel that does its work and is then put to sleep. -/
theorem Channel.started_then_asleep {c : Channel} (good : Bool) {mode : ModeState} (hmode : mode.mode ≠ .standby)
    (hin : c.controls.InRange) :
    (c.started good mode).asleep.state =
      (if (Spec.channelAfter good c).1 = .disabled then .disabled else .acquiring) ∧
    (c.started good mode).asleep.presence = 0 ∧ (c.started good mode).asleep.framePresence = 0 ∧
    (c.started good mode).asleep.port = .code0 := by
  have htable := Channel.faded_sampled good hin
  have hstate : (c.started good mode).state = (Spec.channelAfter good c).1 := by
    rw [Channel.started_awake good hmode, ← htable]
    rfl
  have hpresence : (c.started good mode).presence = (Spec.channelAfter good c).2.1 := by
    rw [Channel.started_awake good hmode, ← htable]
    rfl
  by_cases hdisabled : (Spec.channelAfter good c).1 = .disabled
  · rw [Channel.asleep_of_disabled (hstate.trans hdisabled), if_pos hdisabled]
    exact ⟨hstate.trans hdisabled, hpresence.trans (Spec.channelAfter_disabled hdisabled).1, rfl, rfl⟩
  · rw [Channel.asleep_of_used fun h => hdisabled (hstate.symm.trans h), if_neg hdisabled]
    exact ⟨rfl, rfl, rfl, rfl⟩

/-! ### The channels at a presentation frame start -/

/-- The mode in which NORMAL ports are read (R119). -/
theorem Spec.home_eq {s : State} (h : s.mode.mode = .run ∨ s.mode.mode = .setup ∨ s.mode.mode = .dimming) :
    s.mode.mode = (Spec.home s).toMode ∨ s.mode.mode = .dimming ∧ s.mode.remembered = Spec.home s := by
  unfold Spec.home
  rcases h with h | h | h <;> simp [h, HomeMode.toMode]

/-- The port of a channel after a start, by the mode of its turn. -/
theorem State.MayFind.port {s : State} {mode : ModeState} (h : s.MayFind mode)
    (hmode : s.mode.mode = .run ∨ s.mode.mode = .setup ∨ s.mode.mode = .dimming) (c : Channel) :
    (s.mode.mode ≠ .setup ∨ s.swapDue = false → c.portFor mode = Spec.portOf (Spec.home s) c.state c.controls) ∧
    (s.mode.mode = .setup → c.portFor mode = Spec.portOf .setup c.state c.controls ∨
      c.portFor mode = Spec.portOf .run c.state c.controls) := by
  rcases h with rfl | ⟨hdue, hsetup, rfl⟩
  · exact ⟨fun _ => Channel.portFor_eq (Spec.home_eq hmode), fun hsetup => .inl (Channel.portFor_eq (.inl hsetup))⟩
  · refine ⟨fun hnot => ?_, fun _ => .inr (Channel.portFor_eq (.inl rfl))⟩
    rcases hnot with hnot | hnot
    · exact absurd hsetup hnot
    · rw [hdue] at hnot
      cases hnot

/-- What the takers of the timer's own start find. -/
theorem State.begun_linked (s : State) (env : Env) :
    (s.begun.linked env).chans = s.chans ∧ (s.begun.linked env).mode = s.mode ∧
    (s.begun.linked env).ind = s.ind ∧ (s.begun.linked env).master = s.master ∧
    (s.begun.linked env).acq = s.acq ∧ (s.begun.linked env).banks = s.banks ∧
    (s.begun.linked env).profiles = s.profiles ∧ (s.begun.linked env).probe = s.probe ∧
    (s.begun.linked env).pins.linkGood = env.link ∧ (s.begun.linked env).swapDue = s.swapDue ∧
    (s.begun.linked env).timer = s.begun.timer := by
  simp only [State.linked, State.begun_frame, true_and, and_true]
  exact State.swapDue_of_eq rfl rfl

/-- The walk of the timer's own start. -/
def State.walked (s : State) (env : Env) : State := (s.begun.linked env).takes false (takeOrder env.order)

theorem State.begun_deliver (s : State) (env : Env) : s.begun.deliver false env = (s.walked env).probeServe := rfl

theorem State.begun_counter (s : State) (env : Env) : (s.begun.linked env).timer.counter = s.timer.counter + 1 := by
  rw [(s.begun_linked env).2.2.2.2.2.2.2.2.2.2, State.begun_timer]

/-- R105 to R110, R104, R119: a channel at a start that leaves the part awake. -/
theorem State.walked_chan_awake {s : State} {env : Env} {k : Output}
    (hmode : s.mode.mode = .run ∨ s.mode.mode = .setup ∨ s.mode.mode = .dimming)
    (hfollows : s.mode.mode = .dimming → s.TargetFollows) (hsleeps : Spec.sleeps s = false) :
    (∃ mode, s.MayFind mode ∧
      (s.walked env).chans.get k = (((s.chans.get k).sampled (env.link.get k)).faded).latch mode) ∧
    (s.walked env).ind.flags.outputLost.get k = (s.ind.flags.outputLost.get k ||
      (decide (((s.chans.get k).sampled (env.link.get k)).faded.state = .lost) &&
        decide ((s.chans.get k).state ≠ .lost))) ∧
    Spec.Posts (s.timer.counter + 1) 2 (Spec.ofOutput k) ((s.chans.get k).records k (env.link.get k)) s
      (s.walked env) := by
  obtain ⟨hchans, hmodes, hind, -, -, -, -, -, hlink, hdue, -⟩ := s.begun_linked env
  have hawake := State.begun_awake hfollows hsleeps env (takeOrder env.order)
  have hnodup := takeOrder_nodup env.order
  have hk := mem_takeOrder (.channel k) env.order
  have hstandby : (s.begun.linked env).mode.mode ≠ .standby := by
    rw [hmodes]
    rcases hmode with h | h | h <;> simp [h]
  obtain ⟨hflag, bodies, hposted, hfew, hfilter⟩ := hawake.takes_output hnodup hstandby hk
  obtain ⟨mode, hfound, hown⟩ := hawake.takes_chan_own hnodup false hk
  rw [hchans, hind, hlink] at hflag
  rw [hchans, hlink] at hown hfilter
  have hfound' : s.MayFind mode := by
    unfold State.MayFind at hfound ⊢
    rwa [hmodes, hdue] at hfound
  have hmode' : mode.mode ≠ .standby := by
    rcases hfound' with rfl | ⟨-, -, rfl⟩
    · rwa [hmodes] at hstandby
    · simp
  refine ⟨⟨mode, hfound', hown.trans (Channel.started_awake _ hmode')⟩, hflag, ?_⟩
  rw [← hfilter, ← s.begun_counter env]
  exact Spec.Posts.of_ind (hposted.posts (hfew.trans_eq (walkRoom_takeOrder _)) fun b => Spec.kindCode_of_ofOutput)
    hind

/-- R126, R41: a channel at the start that completes a DIMMING. -/
theorem State.walked_chan_asleep {s : State} {env : Env} {k : Output} (hfollows : s.TargetFollows)
    (hsleeps : Spec.sleeps s = true) :
    (s.walked env).chans.get k = ((s.chans.get k).started (env.link.get k) s.mode).asleep ∨
    (s.walked env).chans.get k =
      ((s.chans.get k).asleep).started (env.link.get k) { s.mode with mode := .standby } := by
  obtain ⟨hchans, hmodes, -, hmaster, -, -, -, -, hlink, -, -⟩ := s.begun_linked env
  obtain ⟨hdimming, hlevel⟩ := (Spec.sleeps_iff s).1 hsleeps
  have htarget : s.master.target = 0 := hfollows.trans (State.targetOf_of_dimming hdimming)
  have hturns := State.takes_asleep_chan (s := s.begun.linked env) (order := takeOrder env.order) (k := k)
    (by rw [hmodes, hdimming]) (by rw [hmaster, htarget]) (by rw [hmaster]; exact hlevel) (takeOrder_nodup _)
    (mem_takeOrder _ _) (mem_takeOrder _ _)
  rwa [hchans, hlink, hmodes] at hturns

/-- Settles O59: a channel does its work once, at its turn; its record, port, flag and OUTPUT_STATE follow; at the
start that completes a DIMMING its turn comes before or after the entry to STANDBY. -/
theorem frameStartWorksTheChannels : Obligations.FrameStartWorksTheChannels := by
  intro s env k hrunning hmode hfollows hin
  have hserved : (s.begun.deliver false env).chans = (s.walked env).chans ∧
      (s.begun.deliver false env).ind = (s.walked env).ind := by
    simp [State.begun_deliver]
  refine ⟨_, exec_presentationFrameStart env hrunning, ?_, fun hsleeps => ?_, fun hsleeps hsound => ?_⟩
  · rw [hserved.1]
    cases hsleeps : Spec.sleeps s with
    | false =>
      obtain ⟨⟨mode, -, hown⟩, -⟩ := State.walked_chan_awake (env := env) (k := k) hmode hfollows hsleeps
      rw [hown]
      exact (Channel.faded_controls _).trans (Channel.sampled_controls _ _)
    | true =>
      rcases State.walked_chan_asleep (env := env) (k := k) (hfollows ((Spec.sleeps_iff s).1 hsleeps).1) hsleeps
        with hown | hown <;> simp [hown]
  · obtain ⟨⟨mode, hfound, hown⟩, hflag, hposts⟩ :=
      State.walked_chan_awake (env := env) (k := k) hmode hfollows hsleeps
    have htable := Channel.faded_sampled (env.link.get k) hin
    have hcontrols : ((s.chans.get k).sampled (env.link.get k)).faded.controls = (s.chans.get k).controls :=
      (Channel.faded_controls _).trans (Channel.sampled_controls _ _)
    have hport := hfound.port hmode ((s.chans.get k).sampled (env.link.get k)).faded
    rw [hcontrols] at hport
    rw [Channel.records_eq k (env.link.get k) hin] at hposts
    rw [hserved.1, hserved.2, hown, hflag, Spec.swaps_eq]
    refine ⟨htable, rfl, congrArg OutputControls.path hcontrols, hport.1, fun hsetup _ => hport.2 hsetup, rfl, ?_⟩
    unfold Spec.Posts at hposts ⊢
    rw [hserved.2]
    exact hposts
  · have hdimming := ((Spec.sleeps_iff s).1 hsleeps).1
    rw [hserved.1]
    rcases State.walked_chan_asleep (env := env) (k := k) (hfollows hdimming) hsleeps with hown | hown
    · obtain ⟨hstate, hpresence, hframe, hport⟩ := Channel.started_then_asleep (c := s.chans.get k)
        (env.link.get k) (mode := s.mode) (by simp [hdimming]) hin
      rw [hown]
      refine ⟨hpresence, hframe, hport, fun h => ?_, fun hused hnot => ?_, fun _ => ?_⟩
      · rw [hstate, if_pos (Spec.channelAfter_of_disabled h)]
      · rw [hstate, if_neg fun h => (Spec.channelAfter_disabled h).2.elim hused hnot]
      · by_cases h : (Spec.channelAfter (env.link.get k) (s.chans.get k)).1 = .disabled
        · exact .inr ⟨hstate.trans (if_pos h), h⟩
        · exact .inl (hstate.trans (if_neg h))
    · obtain ⟨hstate, hpresence, hframe, hport⟩ := Channel.asleep_started (c := s.chans.get k)
        (env.link.get k) (mode := { s.mode with mode := .standby }) rfl fun h => hsound.dark (.inl h)
      rw [hown]
      refine ⟨hpresence, hframe, hport, fun h => hstate.trans (if_pos h), fun hused _ => hstate.trans (if_neg hused),
        fun hretiring => .inl (hstate.trans (if_neg (by simp [hretiring])))⟩

end Sys2Proof.Machine
end

section
/-! PROOFS. Chapters 1 and 2, an input frame start in a locked state: the pair (R12 to R14), the cadence points
(R10), the write (R22, R23) and the alignment point (R11, R24). -/

namespace Sys2Proof.Machine

/-! ### A pair in a locked state (R12 to R14) -/

/-- R12: the staged period, in the statement's words. -/
theorem stagedPeriod_eq (target n : Nat) (e : Int) : stagedPeriod target n e = Spec.stagedBy target n e := by
  have hhalf : 8 * n / 2 = 4 * n := by omega
  rw [stagedPeriod, Spec.stagedBy, clampInt_eq_max_min (by omega), roundDivInt, hhalf]
  push_cast
  rfl

theorem State.pairStaged_eq {s : State} {p : Nat} (h : s.acq.target = some p) (e : Int) :
    s.pairStaged e = Spec.stagedBy p s.acq.controls.cadence.n e := by
  rw [State.pairStaged, h, stagedPeriod_eq]
  rfl

theorem abs_le_nat_iff (e : Int) (n : Nat) : |e| ≤ (n : Int) ↔ e.natAbs ≤ n := by
  rw [Int.abs_eq_natAbs]
  exact Int.ofNat_le

theorem nat_lt_abs_iff (e : Int) (n : Nat) : (n : Int) < |e| ↔ n < e.natAbs := by
  rw [Int.abs_eq_natAbs]
  exact Int.ofNat_lt

theorem State.goodAfter_near {s : State} {p : Nat} {e : Int} (h : s.acq.target = some p)
    (he : |e| ≤ (p / 64 : Nat)) : s.goodAfter e = s.acq.good + 1 := by
  rw [State.goodAfter, h]
  exact if_pos ((abs_le_nat_iff _ _).1 he)

theorem State.goodAfter_far {s : State} {p : Nat} {e : Int} (h : s.acq.target = some p)
    (he : (p / 64 : Nat) < |e|) : s.goodAfter e = 0 := by
  rw [State.goodAfter, h]
  exact if_neg (not_le.2 ((nat_lt_abs_iff _ _).1 he))

theorem State.badAfter_far {s : State} {p : Nat} {e : Int} (h : s.acq.target = some p)
    (he : (p / 16 : Nat) < |e|) : s.badAfter e = s.acq.bad + 1 := by
  rw [State.badAfter, h]
  exact if_pos ((nat_lt_abs_iff _ _).1 he)

theorem State.badAfter_near {s : State} {p : Nat} {e : Int} (h : s.acq.target = some p)
    (he : |e| ≤ (p / 16 : Nat)) : s.badAfter e = 0 := by
  rw [State.badAfter, h]
  exact if_neg (not_lt.2 ((abs_le_nat_iff _ _).1 he))

/-- R13, R14: a change between LOCKING and LOCKED leaves the timer. -/
theorem State.moveTo_within (s : State) {new : AcqState} (w : List FrameRecord) (hnew : new.isLocked = true)
    (hold : s.acq.state.isLocked = true) :
    s.moveTo new w = { s with acq := s.acq.enter new w, ind := Indications.movedTo new s } := by
  rw [s.moveTo_in w hnew, if_neg (by simp [hold])]

/-- Registers that a pair leaves. -/
structure State.PairKeeps (s t : State) : Prop where
  rest   : t = { s with acq := t.acq, timer := t.timer, ind := t.ind }
  locked : t.acq.state.isLocked = true
  frame  : t.acq.frame = s.acq.frame
  since  : t.acq.sinceCadence = s.acq.sinceCadence
  prev   : t.acq.prevCadence = s.acq.prevCadence
  last   : t.acq.lastCadence = s.acq.lastCadence

theorem State.paired_keeps {s : State} (h : s.acq.state.isLocked = true) (staged good bad : Nat) :
    State.PairKeeps s (s.paired staged good bad) :=
  ⟨rfl, h, rfl, rfl, rfl, rfl⟩

theorem State.paired_moved_keeps {s : State} (h : s.acq.state.isLocked = true) (staged good bad : Nat)
    {new : AcqState} (hnew : new = .locking ∨ new = .locked) :
    State.PairKeeps s ((s.paired staged good bad).moveTo new []) := by
  rcases hnew with rfl | rfl <;> rw [State.moveTo_within (s.paired staged good bad) [] rfl h] <;>
    exact ⟨rfl, rfl, rfl, rfl, rfl, rfl⟩

theorem State.pair_keeps {s : State} (h : s.acq.state.isLocked = true) (start cadence : Nat) :
    State.PairKeeps s (s.pair start cadence) := by
  rcases (AcqState.isLocked_eq_true _).1 h with hstate | hstate
  · rw [State.pair_locking hstate]
    split
    · exact State.paired_moved_keeps h _ _ _ (.inr rfl)
    · exact State.paired_keeps h _ _ _
  · rw [State.pair_locked hstate]
    split
    · exact State.paired_moved_keeps h _ _ _ (.inl rfl)
    · exact State.paired_keeps h _ _ _

/-- R12 to R14: a pair, with no event left waiting. -/
theorem State.pair_paired {s : State} {p : Nat} (htarget : s.acq.target = some p)
    (hlocked : s.acq.state.isLocked = true) (hstart : s.acq.waitStart = none) (hcadence : s.acq.waitCadence = none)
    (start cadence : Nat) : Spec.Paired p (start - cadence) s (s.pair start cadence) := by
  have hstaged := State.pairStaged_eq htarget (start - cadence)
  rcases (AcqState.isLocked_eq_true _).1 hlocked with hstate | hstate
  · have hmoved (good bad : Nat) := State.moveTo_within (new := .locked)
      (s.paired (s.pairStaged (start - cadence)) good bad) [] rfl hlocked
    have hind (staged good bad : Nat) : Indications.movedTo .locked (s.paired staged good bad) =
        s.ind.posted (.inputState .locked (s.acq.measured.getD ⟨0, 0, 0⟩)) s.timer.counter :=
      if_neg fun heq : AcqState.locked = s.acq.state => by simp [hstate] at heq
    rw [State.pair_locking hstate, hmoved]
    unfold Spec.Paired
    rw [← hstaged]
    refine ⟨by split <;> rfl, by split <;> exact hstart, by split <;> exact hcadence,
      fun _ => ⟨fun hnear hgood => ?_, fun hnear hgood => ?_, fun hfar => ?_⟩, fun h => by simp [hstate] at h⟩
    · rw [State.goodAfter_near htarget hnear, if_pos (by omega)]
      exact ⟨rfl, rfl, rfl, hind _ _ _⟩
    · rw [State.goodAfter_near htarget hnear, if_neg (by omega)]
      exact ⟨hstate, rfl, rfl⟩
    · rw [State.goodAfter_far htarget hfar, if_neg (by omega)]
      exact ⟨hstate, rfl, rfl⟩
  · have hmoved (good bad : Nat) := State.moveTo_within (new := .locking)
      (s.paired (s.pairStaged (start - cadence)) good bad) [] rfl hlocked
    have hind (staged good bad : Nat) : Indications.movedTo .locking (s.paired staged good bad) =
        s.ind.posted (.inputState .locking (s.acq.measured.getD ⟨0, 0, 0⟩)) s.timer.counter :=
      if_neg fun heq : AcqState.locking = s.acq.state => by simp [hstate] at heq
    rw [State.pair_locked hstate, hmoved]
    unfold Spec.Paired
    rw [← hstaged]
    refine ⟨by split <;> rfl, by split <;> first | rfl | exact hstart, by split <;> first | rfl | exact hcadence,
      fun h => by simp [hstate] at h, fun _ => ⟨fun hfar hbad => ?_, fun hfar hbad => ?_, fun hnear => ?_⟩⟩
    · rw [State.badAfter_far htarget hfar, if_pos (by omega)]
      exact ⟨rfl, rfl, rfl, rfl, AcqLimit.start_eq _, hind _ _ _⟩
    · rw [State.badAfter_far htarget hfar, if_neg (by omega)]
      exact ⟨hstate, by simp [State.paired, hbad], rfl⟩
    · rw [State.badAfter_near htarget hnear, if_neg (by omega)]
      exact ⟨hstate, rfl, rfl⟩

/-! ### The write (R22, R23) -/

/-- R23: a write begins in the buffer of the choice. -/
theorem State.beginWrite_of_choice {s : State} (hlocked : s.acq.state.isLocked = true) {b : BufNo}
    (hchoice : chooseForWrite s.frames.bufs = some b) {f : InFrame} (hframe : s.acq.frame = some f) :
    s.beginWrite = { s with
      frames := { s.frames with
        bufs := s.frames.bufs.set b (.filling s.frames.counter s.banks.revision)
        counter := s.frames.counter + 1 }
      acq := { s.acq with frame := some { f with write := some ⟨b, s.active.scene.decode⟩ } } } := by
  simp only [State.beginWrite, hlocked, hchoice, hframe]
  rfl

/-- R23: a write changes the buffers, the counter and the frame in progress only. -/
theorem State.beginWrite_rest (s : State) :
    s.beginWrite.acq = { s.acq with frame := s.beginWrite.acq.frame } ∧
    s.beginWrite.frames = { s.frames with
      bufs := s.beginWrite.frames.bufs, counter := s.beginWrite.frames.counter } := by
  unfold State.beginWrite
  split
  · exact ⟨rfl, rfl⟩
  · split <;> exact ⟨rfl, rfl⟩

/-! ### An input frame start in a locked state (R10, R11, R16) -/

section Locked

variable {s : State} {time : Nat} {env : Env}

theorem State.inputStart_of_locked (hguard : s.guardBefore time = s) (hlocked : s.acq.state.isLocked = true) :
    s.inputStart time env =
      if s.writing?.isSome then s.tearFrame.setFrame (some ⟨time, none, none⟩) else s.lockedStart time env := by
  rw [State.inputStart, hguard]
  rcases (AcqState.isLocked_eq_true _).1 hlocked with hstate | hstate <;> simp only [hstate]

/-- R10: before the D-th start since the last cadence point nothing but the count changes. -/
theorem State.countCadence_before (h : s.acq.sinceCadence + 1 < s.acq.controls.cadence.d) :
    s.countCadence time = { s with acq := { s.acq with sinceCadence := s.acq.sinceCadence + 1 } } :=
  if_pos h

/-- R10: the registers at a cadence point. -/
def State.atCadence (s : State) : State :=
  { s with acq := { s.acq with
      sinceCadence := 0, prevCadence := s.acq.lastCadence, lastCadence := some s.frames.counter } }

/-- R12: the waiting start is taken. -/
def State.startTaken (s : State) : State := { s.atCadence with acq := { s.atCadence.acq with waitStart := none } }

theorem State.countCadence_wait (h : s.acq.controls.cadence.d ≤ s.acq.sinceCadence + 1)
    (hstart : s.acq.waitStart = none) :
    s.countCadence time = { s.atCadence with acq := { s.atCadence.acq with waitCadence := some time } } := by
  rw [State.countCadence, if_neg (not_lt.2 h)]
  show s.atCadence.cadencePoint time = _
  rw [State.cadencePoint, show s.atCadence.acq.waitStart = none from hstart]

theorem State.countCadence_pair (h : s.acq.controls.cadence.d ≤ s.acq.sinceCadence + 1) {start : Nat}
    (hstart : s.acq.waitStart = some start) :
    s.countCadence time =
      s.startTaken.pair start time := by
  rw [State.countCadence, if_neg (not_lt.2 h)]
  show s.atCadence.cadencePoint time = _
  rw [State.cadencePoint, show s.atCadence.acq.waitStart = some start from hstart]
  rfl

/-- What every input frame start in a locked state leaves after the count of cadence points. -/
theorem State.countCadence_keeps (hlocked : s.acq.state.isLocked = true) :
    s.countCadence time = { s with
      acq := (s.countCadence time).acq, timer := (s.countCadence time).timer, ind := (s.countCadence time).ind } ∧
    (s.countCadence time).acq.state.isLocked = true ∧ (s.countCadence time).acq.frame = s.acq.frame := by
  by_cases hd : s.acq.sinceCadence + 1 < s.acq.controls.cadence.d
  · rw [State.countCadence_before hd]
    exact ⟨rfl, hlocked, rfl⟩
  · cases hstart : s.acq.waitStart with
    | none =>
      rw [State.countCadence_wait (not_lt.1 hd) hstart]
      exact ⟨rfl, hlocked, rfl⟩
    | some start =>
      have hkeeps := State.pair_keeps
        (s := s.startTaken) hlocked start time
      rw [State.countCadence_pair (not_lt.1 hd) hstart]
      exact ⟨hkeeps.rest, hkeeps.locked, hkeeps.frame⟩

/-- R10: the registers of the cadence points after the D-th start. -/
theorem State.countCadence_point (hlocked : s.acq.state.isLocked = true)
    (h : s.acq.controls.cadence.d ≤ s.acq.sinceCadence + 1) :
    (s.countCadence time).acq.sinceCadence = 0 ∧
    (s.countCadence time).acq.prevCadence = s.acq.lastCadence ∧
    (s.countCadence time).acq.lastCadence = some s.frames.counter := by
  cases hstart : s.acq.waitStart with
  | none =>
    rw [State.countCadence_wait h hstart]
    exact ⟨rfl, rfl, rfl⟩
  | some start =>
    have hkeeps := State.pair_keeps
      (s := s.startTaken) hlocked start time
    rw [State.countCadence_pair h hstart]
    exact ⟨hkeeps.since, hkeeps.prev, hkeeps.last⟩

end Locked

/-! ### The start at an alignment point (R11, R24, R28) -/

/-- Two takers have their turns in one order or the other. -/
theorem takeOrder_pair {order : List Taker} (hnodup : order.Nodup) {x y : Taker} (hx : x ∈ order) (hy : y ∈ order)
    (hxy : x ≠ y) : ∃ a b c, (order = a ++ x :: (b ++ y :: c) ∨ order = a ++ y :: (b ++ x :: c)) ∧
      (x ∉ a ∧ y ∉ a) ∧ (x ∉ b ∧ y ∉ b) ∧ x ∉ c ∧ y ∉ c := by
  obtain ⟨before, after, rfl⟩ := List.append_of_mem hx
  rcases List.mem_append.1 hy with hy | hy
  · obtain ⟨a, b, rfl⟩ := List.append_of_mem hy
    refine ⟨a, b, after, .inr (by simp), ?_⟩
    simp only [List.nodup_append, List.nodup_cons, List.mem_append, List.mem_cons] at hnodup
    grind
  · obtain ⟨b, c, rfl⟩ := List.append_of_mem ((List.mem_cons.1 hy).resolve_left hxy.symm)
    refine ⟨before, b, c, .inl rfl, ?_⟩
    simp only [List.nodup_append, List.nodup_cons, List.mem_append, List.mem_cons] at hnodup
    grind

/-- No mode change and no swap is due. -/
def State.Quiet (s : State) : Prop := s.mode.mode ≠ .dimming ∧ s.swapDue = false

/-- What the Frame Store Controller and the acquisition controller look at is the same. -/
structure State.SameStore (s t : State) : Prop where
  acq    : t.acq = s.acq
  timer  : t.timer = s.timer
  frames : t.frames = s.frames
  banks  : t.banks = s.banks

theorem State.SameStore.trans {s t u : State} (h : State.SameStore s t) (h' : State.SameStore t u) :
    State.SameStore s u :=
  ⟨h'.acq.trans h.acq, h'.timer.trans h.timer, h'.frames.trans h.frames, h'.banks.trans h.banks⟩

/-- R11, R24: at an alignment point the choice and the write alone change the frame store. -/
theorem State.Quiet.take_same {s : State} (h : s.Quiet) {t : Taker} (hshow : t ≠ .frameStore) (hwrite : t ≠ .write) :
    State.SameStore s (s.take true t).retarget := by
  obtain ⟨hmode, hdue⟩ := h
  cases t with
  | frameStore => exact absurd rfl hshow
  | write => exact absurd rfl hwrite
  | channel k => exact ⟨by simp [State.take], by simp [State.take], by simp [State.take], by simp [State.take]⟩
  | bank =>
    have hnone : s.bankStart = s := if_neg (by simp [hdue])
    rw [State.take, hnone]
    exact ⟨rfl, rfl, rfl, rfl⟩
  | master =>
    rw [State.take, State.masterStart_awake fun hsleeps => hmode hsleeps.1]
    exact ⟨rfl, rfl, rfl, rfl⟩
  | acquisition => exact ⟨rfl, rfl, rfl, rfl⟩
  | probe => exact ⟨by simp [State.take], by simp [State.take], by simp [State.take], by simp [State.take]⟩

theorem State.Quiet.take {s : State} (h : s.Quiet) (t : Taker) : (s.take true t).retarget.Quiet := by
  refine ⟨s.take_not_dimming true t h.1, ?_⟩
  have hbanks := s.take_banks true t
  rw [if_neg fun hall => by simp [h.2] at hall] at hbanks
  exact (State.swapDue_of_eq (t := (s.take true t).retarget) hbanks (by simp)).trans h.2

theorem State.Quiet.takes_same {s : State} (h : s.Quiet) {order : List Taker}
    (hnot : .frameStore ∉ order ∧ .write ∉ order) :
    State.SameStore s (s.takes true order) ∧ (s.takes true order).Quiet :=
  State.takes_keep (P := fun u => State.SameStore s u ∧ u.Quiet) ⟨⟨rfl, rfl, rfl, rfl⟩, h⟩ fun _ hu t ht =>
    ⟨hu.1.trans (hu.2.take_same (fun heq => hnot.1 (heq ▸ ht)) fun heq => hnot.2 (heq ▸ ht)), hu.2.take t⟩

/-- R28: the buffers after the choice of the newest complete one. -/
def shownNewest (bufs : Three BufRec) : Three BufRec := shownAfter (chooseNewest bufs) bufs

/-- Outside LOCKED the newest frame is chosen. -/
theorem State.selectFrame_newest {s : State} (h : s.acq.state ≠ .locked) :
    s.selectFrame = { s with frames := { s.frames with bufs := shownNewest s.frames.bufs } } := by
  have hnewest : s.selectFrame = s.changeShowing (chooseNewest s.frames.bufs) := by
    unfold State.selectFrame
    split
    · next hlocked _ => exact absurd hlocked h
    · rfl
  rw [hnewest, State.changeShowing_eq]
  rfl

/-- The end of the start at an alignment point: what changed since it began, and the frame's write. -/
structure State.Aligned (s t : State) : Prop where
  timer  : t.timer = s.timer
  banks  : t.banks = s.banks
  acq    : t.acq = { s.acq with frame := t.acq.frame }
  frames : t.frames = { s.frames with bufs := t.frames.bufs, counter := t.frames.counter }
  write  : ∃ bufs, (bufs = s.frames.bufs ∨ bufs = shownNewest s.frames.bufs) ∧
    ∀ b f, chooseForWrite bufs = some b → s.acq.frame = some f →
      t.acq.frame = some { f with write := some ⟨b, s.active.scene.decode⟩ } ∧
      t.frames.counter = s.frames.counter + 1 ∧
      (bufs = s.frames.bufs ∧ t.frames.bufs =
          shownNewest (bufs.set b (.filling s.frames.counter s.banks.revision)) ∨
        bufs = shownNewest s.frames.bufs ∧
          t.frames.bufs = bufs.set b (.filling s.frames.counter s.banks.revision))

theorem State.active_of_banks {s t : State} (h : t.banks = s.banks) : t.active = s.active :=
  congrArg Banks.active h

/-- The choice first, then the write. -/
theorem State.aligned_of_shown_written {s u v t : State} (hlocking : s.acq.state = .locking)
    (hsu : State.SameStore s u) (huv : State.SameStore u.selectFrame v) (hvt : State.SameStore v.beginWrite t) :
    State.Aligned s t := by
  have hnot : u.acq.state ≠ .locked := by simp [hsu.acq, hlocking]
  have hvacq : v.acq = s.acq := by simpa using huv.acq.trans (by simpa using hsu.acq)
  have hvframes : v.frames = { s.frames with bufs := shownNewest s.frames.bufs } := by
    rw [huv.frames, State.selectFrame_newest hnot, hsu.frames]
  have hvbanks : v.banks = s.banks := by simpa using huv.banks.trans (by simpa using hsu.banks)
  have hvtimer : v.timer = s.timer := by simpa using huv.timer.trans (by simpa using hsu.timer)
  obtain ⟨hacq, hframes⟩ := v.beginWrite_rest
  refine ⟨?_, ?_, ?_, ?_, ⟨_, .inr rfl, fun b f hb hf => ?_⟩⟩
  · rw [hvt.timer, v.beginWrite_frame.2.1, hvtimer]
  · rw [hvt.banks, v.beginWrite_frame.2.2.2.2.1, hvbanks]
  · rw [hvt.acq, hacq, hvacq]
  · rw [hvt.frames, hframes, hvframes]
  · have hwritten := State.beginWrite_of_choice (s := v) (b := b) (f := f)
      (by rw [hvacq, hlocking]; rfl) (by rw [hvframes]; exact hb) (by rw [hvacq, hf])
    rw [hvt.acq, hvt.frames, hwritten, hvframes, hvbanks, State.active_of_banks hvbanks]
    exact ⟨rfl, rfl, .inr ⟨rfl, rfl⟩⟩

/-- The write first, then the choice. -/
theorem State.aligned_of_written_shown {s u v t : State} (hlocking : s.acq.state = .locking)
    (hsu : State.SameStore s u) (huv : State.SameStore u.beginWrite v) (hvt : State.SameStore v.selectFrame t) :
    State.Aligned s t := by
  obtain ⟨hacq, hframes⟩ := u.beginWrite_rest
  have hnot : v.acq.state ≠ .locked := by
    rw [huv.acq, hacq, hsu.acq]
    simp [hlocking]
  have hshown := State.selectFrame_newest hnot
  have htacq : t.acq = v.acq := by simpa using hvt.acq
  refine ⟨?_, ?_, ?_, ?_, ⟨_, .inl rfl, fun b f hb hf => ?_⟩⟩
  · rw [hvt.timer, v.selectFrame_frame.2.2.1, huv.timer, u.beginWrite_frame.2.1, hsu.timer]
  · rw [hvt.banks, v.selectFrame_frame.2.2.2.2.2.1, huv.banks, u.beginWrite_frame.2.2.2.2.1, hsu.banks]
  · rw [htacq, huv.acq, hacq, hsu.acq]
  · rw [hvt.frames, hshown, huv.frames, hframes, hsu.frames]
  · have hwritten := State.beginWrite_of_choice (s := u) (b := b) (f := f)
      (by rw [hsu.acq, hlocking]; rfl) (by rw [hsu.frames]; exact hb) (by rw [hsu.acq, hf])
    rw [htacq, hvt.frames, hshown, huv.acq, huv.frames, hwritten, hsu.frames, hsu.banks,
      State.active_of_banks hsu.banks]
    exact ⟨rfl, rfl, .inl ⟨rfl, rfl⟩⟩

theorem State.takes_aligned {s : State} {order : List Taker} (hquiet : s.Quiet) (hlocking : s.acq.state = .locking)
    (hnodup : order.Nodup) (hshow : .frameStore ∈ order) (hwrite : .write ∈ order) :
    State.Aligned s (s.takes true order) := by
  obtain ⟨a, b, c, horder, ha, hb, hc⟩ := takeOrder_pair hnodup hshow hwrite (by decide)
  obtain ⟨hsu, hquiet⟩ := hquiet.takes_same ha
  rcases horder with rfl | rfl
  · have hquiet := hquiet.take .frameStore
    obtain ⟨huv, hquiet⟩ := hquiet.takes_same hb
    have hquiet := hquiet.take .write
    obtain ⟨hvt, -⟩ := hquiet.takes_same hc
    rw [State.takes_append, State.takes_cons, State.takes_append, State.takes_cons]
    exact State.aligned_of_shown_written hlocking hsu ⟨huv.acq, huv.timer, huv.frames, huv.banks⟩
      ⟨hvt.acq, hvt.timer, hvt.frames, hvt.banks⟩
  · have hquiet := hquiet.take .write
    obtain ⟨huv, hquiet⟩ := hquiet.takes_same hb
    have hquiet := hquiet.take .frameStore
    obtain ⟨hvt, -⟩ := hquiet.takes_same hc
    rw [State.takes_append, State.takes_cons, State.takes_append, State.takes_cons]
    exact State.aligned_of_written_shown hlocking hsu ⟨huv.acq, huv.timer, huv.frames, huv.banks⟩
      ⟨hvt.acq, hvt.timer, hvt.frames, hvt.banks⟩

theorem shownAfter_get (choice : Option BufNo) (bufs : Three BufRec) (c : BufNo) :
    ((shownAfter choice bufs).get c = .empty ↔ bufs.get c = .empty) ∧
    ∀ n v, (shownAfter choice bufs).get c = .filling n v ↔ bufs.get c = .filling n v := by
  cases choice with
  | none => exact ⟨Iff.rfl, fun _ _ => Iff.rfl⟩
  | some b =>
    have hshows : (shownAfter (some b) bufs).get c = _ := showBuffer_shows b bufs c
    rw [hshows]
    cases bufs.get c with
    | empty | filling m w => simp
    | complete m w | showing m w => by_cases hc : c = b <;> simp [hc]

theorem oneShowing_set_filling {bufs : Three BufRec} (h : OneShowing bufs) (b : BufNo) (n : BitVec 40)
    (v : BitVec 16) : OneShowing (bufs.set b (.filling n v)) := by
  have hother (c : BufNo) (hc : ((bufs.set b (.filling n v)).get c).Showing) : (bufs.get c).Showing := by
    by_cases hcb : c = b
    · subst hcb
      rw [Three.get_set_same] at hc
      obtain ⟨_, _, hc⟩ := hc
      cases hc
    · rwa [Three.get_set_other _ _ _ _ hcb] at hc
  exact fun c d hc hd => h c d (hother c hc) (hother d hd)

/-- With one buffer SHOWING at most and none FILLING, so it is after the choice. -/
theorem State.BuffersSound.shownNewest {s : State} (h : s.BuffersSound) (hfree : s.writing? = none) :
    OneShowing (shownNewest s.frames.bufs) ∧ ∀ b, ¬ ((shownNewest s.frames.bufs).get b).Filling := by
  have hshown := h.changeShowing (chooseNewest s.frames.bufs)
  rw [State.changeShowing_eq] at hshown
  refine ⟨hshown.oneShowing, fun b hb => ?_⟩
  obtain ⟨w, hw, -⟩ := (hshown.filling b).1 hb
  have hnone : s.writing? = some w := hw
  rw [hfree] at hnone
  cases hnone

/-- R23, R28: the choice and the write of an alignment point, in the statement's words. -/
theorem State.Aligned.written {s t : State} (h : State.Aligned s t) {f : InFrame} (hf : s.acq.frame = some f)
    (hsound : s.BuffersSound) (hfree : s.writing? = none) :
    ∃ (b : BufNo) (bufs : Three BufRec), Spec.WriterMayTake bufs b ∧
      (bufs = s.frames.bufs ∧ Spec.NewestShown
          (bufs.set b (.filling s.frames.counter s.banks.revision)) t.frames.bufs ∨
        Spec.NewestShown s.frames.bufs bufs ∧
          t.frames.bufs = bufs.set b (.filling s.frames.counter s.banks.revision)) ∧
      (∀ c, s.frames.bufs.get c = .empty → bufs.get c = .empty) ∧
      t.acq.frame = some { f with write := some ⟨b, s.active.scene.decode⟩ } ∧
      t.frames.bufs.get b = .filling s.frames.counter s.banks.revision ∧
      t.frames.counter = s.frames.counter + 1 := by
  obtain ⟨bufs, hbufs, hwrite⟩ := h.write
  have hready : OneShowing bufs ∧ ∀ b, ¬ (bufs.get b).Filling := by
    rcases hbufs with rfl | rfl
    · refine ⟨hsound.oneShowing, fun b hb => ?_⟩
      obtain ⟨w, hw, -⟩ := (hsound.filling b).1 hb
      rw [hfree] at hw
      cases hw
    · exact hsound.shownNewest hfree
  obtain ⟨b, hb⟩ := chooseForWrite_isSome hready.1 hready.2
  obtain ⟨hframe, hcounter, horder⟩ := hwrite b f hb hf
  refine ⟨b, bufs, chooseForWrite_mayTake hb, ?_, fun c hc => ?_, hframe, ?_, hcounter⟩
  · rcases horder with ⟨heq, hafter⟩ | ⟨heq, hafter⟩
    · exact .inl ⟨heq, hafter ▸ chooseNewest_shown (oneShowing_set_filling hready.1 _ _ _)⟩
    · exact .inr ⟨heq ▸ chooseNewest_shown hsound.oneShowing, hafter⟩
  · rcases hbufs with rfl | rfl
    · exact hc
    · exact ((shownAfter_get _ _ c).1).2 hc
  · rcases horder with ⟨-, hafter⟩ | ⟨-, hafter⟩
    · rw [hafter]
      exact ((shownAfter_get _ _ b).2 _ _).2 (Three.get_set_same _ _ _)
    · rw [hafter, Three.get_set_same]

/-- R23: an EMPTY buffer is taken whichever comes first. -/
theorem State.Aligned.written_empty {s t : State} (h : State.Aligned s t) {f : InFrame} (hf : s.acq.frame = some f)
    {b : BufNo} (hempty : ∃ c, s.frames.bufs.get c = .empty) (hb : Spec.WriterTakes s.frames.bufs b) :
    t.acq.frame = some { f with write := some ⟨b, s.active.scene.decode⟩ } ∧
    t.frames.bufs.get b = .filling s.frames.counter s.banks.revision ∧
    t.frames.counter = s.frames.counter + 1 := by
  obtain ⟨bufs, hbufs, hwrite⟩ := h.write
  obtain ⟨hfirst, hlow⟩ : s.frames.bufs.get b = .empty ∧ ∀ c < b, s.frames.bufs.get c ≠ .empty := by
    rcases hb with hb | ⟨hfull, -⟩
    · exact hb
    · obtain ⟨c, hc⟩ := hempty
      exact absurd hc (hfull c)
  have hsame (c : BufNo) : bufs.get c = .empty ↔ s.frames.bufs.get c = .empty := by
    rcases hbufs with rfl | rfl
    · exact Iff.rfl
    · exact (shownAfter_get _ _ c).1
  have hchoice : chooseForWrite bufs = some b :=
    chooseForWrite_empty ((hsame b).2 hfirst) fun c hc => mt (hsame c).1 (hlow c hc)
  obtain ⟨hframe, hcounter, horder⟩ := hwrite b f hchoice hf
  refine ⟨hframe, ?_, hcounter⟩
  rcases horder with ⟨-, hafter⟩ | ⟨-, hafter⟩
  · rw [hafter]
    exact ((shownAfter_get _ _ b).2 _ _).2 (Three.get_set_same _ _ _)
  · rw [hafter, Three.get_set_same]

/-! ### The three outcomes -/

/-- R11: the registers at the start of an alignment point. -/
def State.aligning (time p : Nat) (s : State) : State :=
  { s with
    timer := { s.timer with
      lastStart := time, current := p, staged := p, position := 0, counter := s.timer.counter + 1 }
    acq := { s.acq with
      frame := some ⟨time, none, none⟩, alignDue := false, sinceCadence := 0
      lastCadence := some s.frames.counter, prevCadence := none }
    frames := { s.frames with base := none } }

theorem State.lockedStart_align {s : State} {time p : Nat} (env : Env) (hstate : s.acq.state = .locking)
    (hdue : s.acq.alignDue = true) (hp : s.acq.target = some p) :
    s.lockedStart time env = (s.aligning time p).deliver true env := by
  have hthis : (s.setFrame (some ⟨time, none, none⟩)).acq.state = .locking ∧
      (s.setFrame (some ⟨time, none, none⟩)).acq.alignDue = true := ⟨hstate, hdue⟩
  rw [State.lockedStart]
  refine (if_pos hthis).trans ?_
  show State.deliver true env { (s.aligning time (s.acq.target.getD s.timer.current)) with .. } = _
  rw [hp]
  rfl

theorem State.lockedStart_count {s : State} {time : Nat} (env : Env)
    (h : ¬ (s.acq.state = .locking ∧ s.acq.alignDue = true)) :
    s.lockedStart time env = ((s.setFrame (some ⟨time, none, none⟩)).countCadence time).beginWrite :=
  if_neg h

theorem Spec.Paired.of_frame {p : Nat} {e : Int} {s u t : State} (h : Spec.Paired p e s u)
    (hacq : ∃ f, t.acq = { u.acq with frame := f }) (htimer : t.timer = u.timer) (hind : t.ind = u.ind) :
    Spec.Paired p e s t := by
  obtain ⟨f, hacq⟩ := hacq
  unfold Spec.Paired at h ⊢
  rw [hacq, htimer, hind]
  exact h

theorem State.BuffersSound.not_filling {s : State} (h : s.BuffersSound) (hfree : s.writing? = none) (b : BufNo) :
    ¬ (s.frames.bufs.get b).Filling := by
  intro hb
  obtain ⟨w, hw, -⟩ := (h.filling b).1 hb
  rw [hfree] at hw
  cases hw

/-- The records of the buffers are sound when the frame that has just begun is not written yet. -/
theorem State.BuffersSound.aligning {s : State} (h : s.BuffersSound) (hfree : s.writing? = none) (time p : Nat)
    (env : Env) : ((s.aligning time p).linked env).BuffersSound :=
  ⟨h.oneShowing, fun b => iff_of_false (h.not_filling hfree b) (by rintro ⟨w, hw, -⟩; cases hw), nofun⟩

/-- The write of an input frame start that is no alignment point. -/
theorem State.counted_written {s : State} (hlocked : s.acq.state.isLocked = true) (time : Nat) {b : BufNo}
    (hb : Spec.WriterTakes s.frames.bufs b) :
    ((s.setFrame (some ⟨time, none, none⟩)).countCadence time).beginWrite = { s with
      frames := { s.frames with
        bufs := s.frames.bufs.set b (.filling s.frames.counter s.banks.revision)
        counter := s.frames.counter + 1 }
      acq := { ((s.setFrame (some ⟨time, none, none⟩)).countCadence time).acq with
        frame := some ⟨time, none, some ⟨b, s.active.scene.decode⟩⟩ }
      timer := ((s.setFrame (some ⟨time, none, none⟩)).countCadence time).timer
      ind := ((s.setFrame (some ⟨time, none, none⟩)).countCadence time).ind } := by
  obtain ⟨hrest, hlocked', hframe⟩ := State.countCadence_keeps
    (s := s.setFrame (some ⟨time, none, none⟩)) (time := time) hlocked
  have hframes : ((s.setFrame (some ⟨time, none, none⟩)).countCadence time).frames = s.frames :=
    (congrArg State.frames hrest :)
  have hbanks : ((s.setFrame (some ⟨time, none, none⟩)).countCadence time).banks = s.banks :=
    (congrArg State.banks hrest :)
  rw [State.beginWrite_of_choice hlocked' (b := b) (by rw [hframes]; exact chooseForWrite_of_takes hb) hframe,
    hframes, hbanks, State.active_of_banks hbanks]
  generalize (s.setFrame (some ⟨time, none, none⟩)).countCadence time = c at hrest
  rw [hrest]
  rfl

/-- Settles O56: a written frame is torn; an alignment point is a start whose takers leave all but the choice and the
write; elsewhere the cadence points are counted and paired, and the frame is written. -/
theorem frameStartInLocked : Obligations.FrameStartInLocked := by
  intro s time env hmode hlocked hsoon
  have hlocked' : (Spec.valid s).acq.state.isLocked = true := (AcqState.isLocked_eq_true _).2 hlocked
  have hstart := State.inputStart_of_locked (s := Spec.valid s) (time := time) (env := env)
    (State.guardBefore_eq_self (s := Spec.valid s) hsoon) hlocked'
  rw [exec_inputFrameStart s time env hmode, hstart]
  refine ⟨fun w hw => ?torn, fun hfree hstate hdue harmed hdimming p hp => ?aligned,
    fun hfree hnot b hb => ?counted⟩
  case torn =>
    have hwriting : (Spec.valid s).writing?.isSome = true := by
      show s.writing?.isSome = true
      rw [hw]
      rfl
    rw [if_pos hwriting]
    exact congrArg Host.Outcome.next ((Spec.valid s).measuring_eq _ [] _)
  case aligned =>
    have hwriting : ¬ (Spec.valid s).writing?.isSome = true := by
      show ¬ s.writing?.isSome = true
      simp [hfree]
    rw [if_neg hwriting, State.lockedStart_align (s := Spec.valid s) env hstate hdue hp]
    have hquiet : (((Spec.valid s).aligning time p).linked env).Quiet :=
      ⟨hdimming, by simp [State.swapDue, State.linked, State.aligning, Spec.valid, harmed]⟩
    have haligned := State.takes_aligned (order := takeOrder env.order) hquiet hstate (takeOrder_nodup _)
      (mem_takeOrder _ _) (mem_takeOrder _ _)
    refine ⟨_, rfl, ?_⟩
    have hserved := State.probeServe_frame
      ((((Spec.valid s).aligning time p).linked env).takes true (takeOrder env.order))
    obtain ⟨-, hacq, hframes, htimer, -, -, hbanks, -⟩ := hserved
    simp only [State.retarget_timer, State.retarget_acq, State.retarget_frames, State.retarget_banks,
      State.deliver_eq, hacq, hframes, htimer, hbanks]
    have hacq' := haligned.acq
    have hframes' := haligned.frames
    refine ⟨haligned.timer, by rw [hacq']; exact hstate, by rw [hacq']; rfl, by rw [hacq']; rfl, by rw [hacq']; rfl,
      by rw [hacq']; rfl, by rw [hframes']; rfl, by rw [hframes']; rfl, haligned.banks, fun hsound => ?_,
      fun b hempty hb => ?_⟩
    · have hvalid : (Spec.valid s).BuffersSound := ⟨hsound.oneShowing, hsound.filling, hsound.locked⟩
      exact haligned.written rfl (hvalid.aligning hfree time p env) rfl
    · exact haligned.written_empty rfl hempty hb
  case counted =>
    have hwriting : ¬ (Spec.valid s).writing?.isSome = true := by
      show ¬ s.writing?.isSome = true
      simp [hfree]
    rw [if_neg hwriting, State.lockedStart_count (s := Spec.valid s) env hnot]
    rw [State.counted_written hlocked' time hb]
    refine ⟨_, rfl, rfl, rfl, fun hbefore => ?_, fun hpoint => ?_, rfl, rfl, rfl, rfl, rfl, rfl, rfl, rfl⟩
    · have hcount := State.countCadence_before (s := (Spec.valid s).setFrame (some ⟨time, none, none⟩))
        (time := time) hbefore
      rw [hcount]
      exact ⟨rfl, rfl, rfl⟩
    · obtain ⟨hsince, hprev, hlast⟩ := State.countCadence_point
        (s := (Spec.valid s).setFrame (some ⟨time, none, none⟩)) (time := time) hlocked' hpoint
      refine ⟨hsince, hprev, hlast, fun hwait => ?_, fun p start hp hwait hnone => ?_⟩
      · have hcount := State.countCadence_wait (s := (Spec.valid s).setFrame (some ⟨time, none, none⟩))
          (time := time) hpoint hwait
        rw [hcount]
        exact ⟨rfl, rfl, rfl, rfl⟩
      · have hcount := State.countCadence_pair (s := (Spec.valid s).setFrame (some ⟨time, none, none⟩))
          (time := time) hpoint hwait
        rw [hcount]
        have hpaired := State.pair_paired (s := ((Spec.valid s).setFrame (some ⟨time, none, none⟩)).startTaken)
          hp hlocked' rfl hnone start time
        exact Spec.Paired.of_frame (s := s) hpaired ⟨_, rfl⟩ rfl rfl

end Sys2Proof.Machine
end

section
/-! PROOFS. Chapters 2, 5 and 7, the timer's own start: the registers that no taker writes, the group base (R10),
the probe (R97) and the master level (R40, R41). -/

namespace Sys2Proof.Machine

/-! ### The registers that no taker of the timer's own start writes -/

/-- Timer, frame store, controls and master registers that a start leaves once it has begun. -/
structure Lasting where
  current   : Nat
  free      : Nat
  position  : Nat
  counter   : BitVec 32
  lastStart : Nat
  number    : BitVec 40
  base      : Option (BitVec 40)
  threshold : Nat
  controls  : InputControls
  step      : Nat
  mute      : Bool

def State.lasting (s : State) : Lasting :=
  ⟨s.timer.current, s.timer.free, s.timer.position, s.timer.counter, s.timer.lastStart, s.frames.counter,
    s.frames.base, s.frames.threshold, s.acq.controls, s.master.step, s.master.mute⟩

theorem State.lasting_of_steady {s t : State} (h : t.steady = s.steady) (hmaster : t.master = s.master) :
    t.lasting = s.lasting := by
  simp only [State.steady, Steady.mk.injEq] at h
  simp [State.lasting, h, hmaster]

theorem State.countSlip_lasting (s : State) : s.countSlip.lasting = s.lasting := by
  unfold State.countSlip
  dsimp only
  split <;> simp [State.lasting]

theorem State.selectFrame_lasting (s : State) : s.selectFrame.lasting = s.lasting := by
  have hshow (b : Option BufNo) : (s.changeShowing b).lasting = s.lasting := by
    rw [State.changeShowing_eq]
    rfl
  unfold State.selectFrame State.showExpected
  dsimp only
  repeat' split
  · exact hshow _
  · exact (State.countSlip_lasting _).trans (hshow _)
  · exact (State.countSlip_lasting _).trans (hshow _)
  · exact hshow _

theorem State.chanStandby_lasting (s : State) (k : Output) : (s.chanStandby k).lasting = s.lasting := by
  simp [State.lasting]

theorem State.standbyInput_lasting (s : State) : s.standbyInput.lasting = s.lasting := by
  have hmoved := State.lasting_of_steady (s.moveTo_steady .noSignal []) (State.moveTo_frame s .noSignal []).2.1
  simpa [State.standbyInput, State.lasting] using hmoved

theorem State.enterStandby_lasting (s : State) : s.enterStandby.lasting = s.lasting := by
  unfold State.enterStandby
  dsimp only
  rw [State.chanStandby_lasting, State.chanStandby_lasting, State.chanStandby_lasting, State.chanStandby_lasting]
  refine (show _ = State.lasting (State.standbyInput _) from rfl).trans ((State.standbyInput_lasting _).trans ?_)
  simp [State.lasting]

theorem State.swap_lasting (s : State) : s.swap.lasting = s.lasting := by
  have hmode (u : State) (hu : u.lasting = s.lasting) :
      (if u.mode.mode = .setup then u.changeMode .run else u).lasting = s.lasting := by
    split
    · rw [State.changeMode_eq]
      exact hu
    · exact hu
  have hswapped : (({ s with banks := s.banks.swapped } : State).post
      (.bankSwapped s.banks.swapped.revision)).lasting = s.lasting := by
    rw [State.post_eq]
    rfl
  have hcanvas (u : State) (hu : u.lasting = s.lasting) : u.canvasChanged.lasting = s.lasting := by
    have hnew : u.newCanvas.lasting = u.lasting := by
      refine State.lasting_of_steady (acqWork_newCanvas u).steady_eq ?_
      exact (congrArg State.master (acqWork_newCanvas u).eq :)
    exact hnew.trans hu
  unfold State.swap
  dsimp only
  split
  · exact hmode _ (hcanvas _ hswapped)
  · exact hmode _ hswapped

theorem State.take_lasting (s : State) (t : Taker) : (s.take false t).lasting = s.lasting := by
  cases t with
  | frameStore => exact s.selectFrame_lasting
  | channel k => simp [State.take, State.lasting]
  | bank =>
    rw [State.take, State.bankStart]
    split
    · exact s.swap_lasting
    · rfl
  | master =>
    rw [State.take, State.masterStart]
    dsimp only
    split
    · exact State.enterStandby_lasting _
    · rfl
  | acquisition =>
    exact State.lasting_of_steady (acqWork_acquisitionStart s).steady_eq
      (congrArg State.master (acqWork_acquisitionStart s).eq :)
  | probe => simp [State.take, State.lasting]
  | write => rfl

theorem State.takes_lasting (s : State) (order : List Taker) : (s.takes false order).lasting = s.lasting :=
  State.takes_keep (P := fun u => u.lasting = s.lasting) rfl fun u hu t _ => (u.take_lasting t).trans hu

/-- The registers of the timer's own start, at its end. -/
theorem State.walked_lasting (s : State) (env : Env) : (s.walked env).lasting = s.begun.lasting :=
  (State.takes_lasting _ _).trans rfl

/-- What the state at the end of the start has from the start's own registers. -/
theorem State.walked_registers (s : State) (env : Env) :
    (s.walked env).timer.current = s.timer.staged ∧ (s.walked env).timer.free = s.timer.free ∧
    (s.walked env).timer.counter = s.timer.counter + 1 ∧
    (s.walked env).timer.position = nextPosition s.timer.position s.acq.controls.cadence.n ∧
    (s.walked env).timer.lastStart = s.timer.lastStart + s.timer.current ∧
    (s.walked env).frames.counter = s.frames.counter ∧ (s.walked env).frames.base = s.begun.frames.base ∧
    (s.walked env).frames.threshold = s.frames.threshold ∧ (s.walked env).acq.controls = s.acq.controls ∧
    (s.walked env).master.step = s.master.step ∧ (s.walked env).master.mute = s.master.mute := by
  have hlasting := s.walked_lasting env
  have hcounter : s.begun.frames.counter = s.frames.counter := by
    unfold State.begun State.handBase
    split <;> rfl
  have hthreshold : s.begun.frames.threshold = s.frames.threshold := by simp [State.begun]
  simp only [State.lasting, Lasting.mk.injEq, s.begun_timer, hcounter, hthreshold, State.begun_frame] at hlasting
  obtain ⟨hcurrent, hfree, hposition, hcount, hlast, hnumber, hbase, hthreshold, hcontrols, hstep, hmute⟩ := hlasting
  exact ⟨hcurrent, hfree, hcount, hposition, hlast, hnumber, hbase, hthreshold, hcontrols, hstep, hmute⟩

/-! ### The group base (R10) -/

theorem State.handBase_base (s : State) :
    s.handBase.frames.base = if s.timer.position = 0 then s.groupBase else s.frames.base := by
  unfold State.handBase
  split <;> rfl

theorem State.begun_base (s : State) : s.begun.frames.base =
    if nextPosition s.timer.position s.acq.controls.cadence.n = 0 then s.groupBase else s.frames.base :=
  State.handBase_base _

theorem State.groupBase_handed (s : State) :
    ((s.acq.state = .locking ∨ s.acq.state = .locked) ∧ s.acq.alignDue = false →
      s.groupBase = if s.acq.waitCadence = none then s.acq.lastCadence else s.acq.prevCadence) ∧
    (¬ ((s.acq.state = .locking ∨ s.acq.state = .locked) ∧ s.acq.alignDue = false) → s.groupBase = none) := by
  have hcond : (s.acq.state.isLocked && !s.acq.alignDue) = true ↔
      (s.acq.state = .locking ∨ s.acq.state = .locked) ∧ s.acq.alignDue = false := by
    rw [Bool.and_eq_true, AcqState.isLocked_eq_true, Bool.not_eq_true']
  unfold State.groupBase
  constructor
  · intro h
    rw [if_pos (hcond.2 h)]
    cases s.acq.waitCadence <;> rfl
  · intro h
    exact if_neg (mt hcond.1 h)

/-! ### The mode and the level (R40, R41, R145) -/

/-- R41: a start that completes a DIMMING ends in STANDBY, every block dark. -/
theorem State.walked_asleep {s : State} {env : Env} (hfollows : s.TargetFollows) (hsleeps : Spec.sleeps s = true) :
    ∃ before after, takeOrder env.order = before ++ .master :: after ∧ .master ∉ before ∧
      ((s.begun.linked env).takes false before).mode = s.mode ∧
      s.walked env = (((s.begun.linked env).takes false before).fallen).takes false after ∧
      (s.walked env).mode = { s.mode with mode := .standby } := by
  obtain ⟨-, hmodes, -, hmaster, -⟩ := s.begun_linked env
  obtain ⟨hdimming, hlevel⟩ := (Spec.sleeps_iff s).1 hsleeps
  have htarget : s.master.target = 0 := hfollows.trans (State.targetOf_of_dimming hdimming)
  obtain ⟨before, after, horder, hnot, hmode, -, hwalk⟩ := State.takes_asleep (s := s.begun.linked env)
    (order := takeOrder env.order) (by rw [hmodes, hdimming]) (by rw [hmaster, htarget])
    (by rw [hmaster]; exact hlevel) (takeOrder_nodup _) (mem_takeOrder _ _) false
  rw [hmodes] at hmode
  have hfallen : ((s.begun.linked env).takes false before).fallen.mode = { s.mode with mode := .standby } := by
    rw [State.fallen, State.retarget_mode, State.enterStandby_mode, hmode]
  refine ⟨before, after, horder, hnot, hmode, hwalk, ?_⟩
  have hafter := State.takes_mode (s := ((s.begun.linked env).takes false before).fallen) false after
    (by simp [hfallen])
  rw [if_neg fun hall => by simp [hfallen] at hall, hfallen] at hafter
  exact (congrArg State.mode hwalk).trans hafter

/-- Outside the start that completes a DIMMING, a swap out of SETUP alone changes the mode. -/
theorem State.walked_mode {s : State} {env : Env} (hfollows : s.mode.mode = .dimming → s.TargetFollows)
    (hsleeps : Spec.sleeps s = false) : (s.walked env).mode =
      if s.swapDue = true ∧ s.mode.mode = .setup then { s.mode with mode := .run } else s.mode := by
  obtain ⟨-, hmodes, -, -, -, -, -, -, -, hdue, -⟩ := s.begun_linked env
  have hmode := (State.begun_awake hfollows hsleeps env (takeOrder env.order)).takes_mode (takeOrder_nodup _) false
  rw [hmodes, hdue] at hmode
  simp only [mem_takeOrder, true_and] at hmode
  exact hmode

/-- R40: the level moves at the Master Level unit's own turn, toward the target it finds. -/
theorem State.Awake.takes_level {order : List Taker} {s : State} (h : s.Awake order) (hnodup : order.Nodup)
    (hmem : .master ∈ order) : ∃ before after, order = before ++ .master :: after ∧ .master ∉ before ∧
      (s.takes false order).master.level = (s.takes false before).master.next := by
  obtain ⟨before, after, rfl⟩ := List.append_of_mem hmem
  have hparts := hnodup
  rw [List.nodup_append, List.nodup_cons] at hparts
  obtain ⟨hbefore, ⟨hafter, hnodup'⟩, hdisjoint⟩ := hparts
  have hturn := h.takes hnodup false
  refine ⟨before, after, rfl, fun hin => hdisjoint _ hin _ List.mem_cons_self rfl, ?_⟩
  have hrest := (hturn.take hafter false).takes_keep (align := false)
    (P := fun u => u.master.level = (s.takes false before).master.next) hnodup'
    (by rw [State.take, State.masterStart_awake (hturn.not_sleepsNow List.mem_cons_self rfl)]; rfl)
    fun u t hu ht _ => (congrArg Master.level (State.take_master false fun heq => hafter (heq ▸ ht))).trans hu
  rwa [State.takes_append, State.takes_cons]

/-- Before the Master Level unit's turn the level and the step stay. -/
theorem State.takes_level_before {order : List Taker} {s : State} (h : .master ∉ order) :
    (s.takes false order).master.level = s.master.level ∧ (s.takes false order).master.step = s.master.step :=
  State.takes_keep (P := fun u => u.master.level = s.master.level ∧ u.master.step = s.master.step) ⟨rfl, rfl⟩
    fun u hu t ht => by
      have hmaster := State.take_master (s := u) false fun heq => h (heq ▸ ht)
      exact ⟨(congrArg Master.level hmaster).trans hu.1, (congrArg Master.step hmaster).trans hu.2⟩

theorem Master.next_eq (m : Master) : m.next =
    if m.level < m.target then min m.target (m.level + m.step) else max m.target (m.level - m.step) := by
  unfold Master.next
  split
  · rfl
  · split <;> omega

/-! ### The acquisition controller's turn (R12) -/

/-- Outside the locked states, with alignment outstanding, and away from position 0 no start pairs. -/
theorem State.acquisitionStart_idle {s : State}
    (h : ¬ (s.acq.state.isLocked = true ∧ s.acq.alignDue = false ∧ s.timer.position = 0)) :
    s.acquisitionStart = s := by
  refine if_neg fun hall => h ?_
  simpa [and_assoc] using hall

theorem State.acquisitionStart_pairs {s : State} (hlocked : s.acq.state.isLocked = true)
    (hdue : s.acq.alignDue = false) (hposition : s.timer.position = 0) :
    s.acquisitionStart = s.positionZero s.timer.lastStart :=
  if_pos (by simp [hlocked, hdue, hposition])

/-- R12: the waiting cadence point is taken. -/
def State.cadenceTaken (s : State) : State := { s with acq := { s.acq with waitCadence := none } }

theorem State.positionZero_waiting {s : State} {point : Nat} (h : s.acq.waitCadence = some point) (time : Nat) :
    s.positionZero time = s.cadenceTaken.pair time point := by
  rw [State.positionZero, h]
  rfl

theorem State.positionZero_alone {s : State} (h : s.acq.waitCadence = none) (time : Nat) :
    s.positionZero time = { s with acq := { s.acq with waitStart := some time } } := by
  rw [State.positionZero, h]

/-- What the acquisition controller's turn leaves, in a locked state. -/
theorem State.acquisitionStart_keeps {s : State} (hlocked : s.acq.state.isLocked = true) :
    s.acquisitionStart = { s with
      acq := s.acquisitionStart.acq, timer := s.acquisitionStart.timer, ind := s.acquisitionStart.ind } ∧
    s.acquisitionStart.acq.state.isLocked = true := by
  by_cases hturn : s.acq.state.isLocked = true ∧ s.acq.alignDue = false ∧ s.timer.position = 0
  · obtain ⟨-, hdue, hposition⟩ := hturn
    rw [State.acquisitionStart_pairs hlocked hdue hposition]
    cases hwait : s.acq.waitCadence with
    | none =>
      rw [State.positionZero_alone hwait]
      exact ⟨rfl, hlocked⟩
    | some point =>
      rw [State.positionZero_waiting hwait]
      have hkeeps := State.pair_keeps (s := s.cadenceTaken) hlocked s.timer.lastStart point
      exact ⟨hkeeps.rest, hkeeps.locked⟩
  · rw [State.acquisitionStart_idle hturn]
    exact ⟨rfl, hlocked⟩

/-- R17: the acquisition controller's turn does not change whether a picture is allowed. -/
theorem State.acquisitionStart_allowed (s : State) :
    s.acquisitionStart.pictureAllowed = s.pictureAllowed := by
  by_cases hlocked : s.acq.state.isLocked = true
  · simp [State.pictureAllowed, hlocked, (State.acquisitionStart_keeps hlocked).2]
  · rw [State.acquisitionStart_idle fun h => hlocked h.1]

/-- With no swap due and no DIMMING, the acquisition registers and the timer are the acquisition controller's. -/
theorem State.Quiet.take_acq {s : State} (h : s.Quiet) {t : Taker} (ht : t ≠ .acquisition) :
    (s.take false t).acq = s.acq ∧ (s.take false t).timer = s.timer := by
  obtain ⟨hmode, hdue⟩ := h
  cases t with
  | acquisition => exact absurd rfl ht
  | bank =>
    have hnone : s.bankStart = s := if_neg (by simp [hdue])
    rw [State.take, hnone]
    exact ⟨rfl, rfl⟩
  | master =>
    rw [State.take, State.masterStart_awake fun hsleeps => hmode hsleeps.1]
    exact ⟨rfl, rfl⟩
  | write => exact ⟨rfl, rfl⟩
  | _ => simp [State.take]

theorem State.Quiet.take_own {s : State} (h : s.Quiet) (t : Taker) : (s.take false t).retarget.Quiet := by
  refine ⟨s.take_not_dimming false t h.1, ?_⟩
  have hbanks := s.take_banks false t
  rw [if_neg fun hall => by simp [h.2] at hall] at hbanks
  exact (State.swapDue_of_eq (t := (s.take false t).retarget) hbanks (by simp)).trans h.2

theorem State.Quiet.takes_acq {s : State} (h : s.Quiet) {order : List Taker} (hnot : .acquisition ∉ order) :
    (s.takes false order).Quiet ∧ (s.takes false order).acq = s.acq ∧ (s.takes false order).timer = s.timer :=
  State.takes_keep (P := fun u => u.Quiet ∧ u.acq = s.acq ∧ u.timer = s.timer) ⟨h, rfl, rfl⟩ fun u hu t ht => by
    obtain ⟨hquiet, hacq, htimer⟩ := hu
    obtain ⟨hacq', htimer'⟩ := hquiet.take_acq fun heq => hnot (heq ▸ ht)
    exact ⟨hquiet.take_own t, hacq'.trans hacq, htimer'.trans htimer⟩

/-- R12: the pair of a position-0 start with the waiting cadence point. -/
theorem State.Quiet.takes_pair {s : State} {order : List Taker} (h : s.Quiet) (hnodup : order.Nodup)
    (hmem : .acquisition ∈ order) (hlocked : s.acq.state.isLocked = true) (hdue : s.acq.alignDue = false)
    (hposition : s.timer.position = 0) {p point : Nat} (hp : s.acq.target = some p)
    (hpoint : s.acq.waitCadence = some point) (hwait : s.acq.waitStart = none) :
    (s.takes false order).timer.staged =
      Spec.stagedBy p s.acq.controls.cadence.n ((s.timer.lastStart : Int) - point) := by
  obtain ⟨before, after, rfl⟩ := List.append_of_mem hmem
  rw [List.nodup_append, List.nodup_cons] at hnodup
  obtain ⟨-, ⟨hafter, -⟩, hdisjoint⟩ := hnodup
  have hbefore : Taker.acquisition ∉ before := fun hin => hdisjoint _ hin _ List.mem_cons_self rfl
  obtain ⟨hquiet, hacq, htimer⟩ := h.takes_acq hbefore
  have hpairs := State.acquisitionStart_pairs (s := s.takes false before) (by rw [hacq, hlocked])
    (by rw [hacq, hdue]) (by rw [htimer, hposition])
  rw [State.positionZero_waiting (point := point) (by rw [hacq, hpoint]), htimer] at hpairs
  have hpaired := State.pair_paired (s := (s.takes false before).cadenceTaken) (p := p)
    (congrArg Acquisition.target hacq |>.trans hp) ((congrArg (fun a => a.state.isLocked) hacq).trans hlocked)
    ((congrArg Acquisition.waitStart hacq).trans hwait) rfl s.timer.lastStart point
  have hstaged : ((s.takes false before).take false .acquisition).timer.staged =
      Spec.stagedBy p s.acq.controls.cadence.n ((s.timer.lastStart : Int) - point) := by
    have hown := congrArg (fun tm => tm.staged) hpaired.1
    rw [← hpairs] at hown
    refine (show _ = (s.takes false before).acquisitionStart.timer.staged from rfl).trans (hown.trans ?_)
    show Spec.stagedBy p (s.takes false before).acq.controls.cadence.n _ = _
    rw [hacq]
  obtain ⟨-, -, hrest⟩ := (hquiet.take_own .acquisition).takes_acq hafter
  rw [State.takes_append, State.takes_cons, hrest]
  exact hstaged

/-! ### The master target over a start (R39, R40) -/

/-- With no ALL_BLACK policy the target looks at picture allowed, mute and mode. -/
theorem State.targetOf_eq_of {s t : State} (hallowed : t.pictureAllowed = s.pictureAllowed)
    (hmute : t.master.mute = s.master.mute) (hmode : t.mode = s.mode)
    (hs : ∀ k, (s.chans.get k).controls.policy ≠ .allBlack)
    (ht : ∀ k, (t.chans.get k).controls.policy ≠ .allBlack) : t.targetOf = s.targetOf := by
  have hnone {u : State} (hu : ∀ k, (u.chans.get k).controls.policy ≠ .allBlack) :
      (u.chans.o0.blacksOut || u.chans.o1.blacksOut || u.chans.o2.blacksOut || u.chans.o3.blacksOut) = false := by
    have h0 : u.chans.o0.controls.policy ≠ .allBlack := hu 0
    have h1 : u.chans.o1.controls.policy ≠ .allBlack := hu 1
    have h2 : u.chans.o2.controls.policy ≠ .allBlack := hu 2
    have h3 : u.chans.o3.controls.policy ≠ .allBlack := hu 3
    simp [Channel.blacksOut, h0, h1, h2, h3]
  unfold State.targetOf
  rw [hnone hs, hnone ht, hallowed, hmute, hmode]

/-- R39: over a start with no swap due and no ALL_BLACK policy the conditions of the target stay. -/
structure State.SameTarget (s t : State) : Prop where
  quiet    : t.Quiet
  mode     : t.mode = s.mode
  allowed  : t.pictureAllowed = s.pictureAllowed
  mute     : t.master.mute = s.master.mute
  policies : ∀ k, (t.chans.get k).controls.policy ≠ .allBlack
  target   : t.master.target = s.targetOf

theorem State.take_policies {s : State} (t : Taker) (hawake : t = .master → ¬ s.sleepsNow) (k : Output) :
    ((s.take false t).chans.get k).controls = (s.chans.get k).controls := by
  by_cases ht : t = .channel k
  · subst ht
    rw [State.take, State.channelStart_chans, Four.get_set_same]
    exact Channel.started_controls _ _ _
  · rw [State.take_chan_other false ht hawake]

theorem State.SameTarget.take {s u : State} (h : State.SameTarget s u)
    (hs : ∀ k, (s.chans.get k).controls.policy ≠ .allBlack) (t : Taker) :
    State.SameTarget s (u.take false t).retarget := by
  have hawake : t = .master → ¬ u.sleepsNow := fun _ hsleeps => h.quiet.1 hsleeps.1
  have hmode : (u.take false t).mode = s.mode := by
    rw [State.take_mode_awake false hawake, if_neg fun hall => by simp [h.quiet.2] at hall, h.mode]
  have hallowed : (u.take false t).pictureAllowed = s.pictureAllowed := by
    refine Eq.trans ?_ h.allowed
    by_cases ht : t = .acquisition
    · subst ht
      exact u.acquisitionStart_allowed
    · rw [State.pictureAllowed, (h.quiet.take_acq ht).1]
      rfl
  have hmute : (u.take false t).master.mute = s.master.mute :=
    ((congrArg Lasting.mute (u.take_lasting t)).trans h.mute :)
  have hpolicies (k : Output) : ((u.take false t).chans.get k).controls.policy ≠ .allBlack := by
    rw [State.take_policies t hawake k]
    exact h.policies k
  exact ⟨h.quiet.take_own t, hmode, hallowed, hmute, hpolicies,
    State.targetOf_eq_of hallowed hmute hmode hs hpolicies⟩

theorem State.SameTarget.takes {s : State} (hquiet : s.Quiet) (hfollows : s.TargetFollows)
    (hs : ∀ k, (s.chans.get k).controls.policy ≠ .allBlack) (order : List Taker) :
    State.SameTarget s (s.takes false order) :=
  State.takes_keep (P := State.SameTarget s) ⟨hquiet, rfl, rfl, rfl, hs, hfollows⟩ fun _ hu t _ => hu.take hs t

end Sys2Proof.Machine
end

section
/-! PROOFS. Chapter 10, the records of the timer's own start, kind by kind (R142, R145, R163, R167, R100). -/

namespace Sys2Proof.Machine

/-! ### The records around one turn -/

/-- Records of other kinds around those of one operation. -/
theorem State.posted_around {s u v t : State} {n m : Nat} {own : List IndBody} {kinds : IndBody → Prop}
    {which : IndBody → Bool} (hfirst : State.Tells n kinds s u) (hown : State.Posted own u v)
    (hlast : State.Tells m kinds v t) (hkinds : ∀ b, kinds b → which b = false) :
    ∃ bodies, State.Posted bodies s t ∧ bodies.length ≤ n + own.length + m ∧
      bodies.filter which = own.filter which := by
  obtain ⟨first, hpostedFirst, hfew, hsaysFirst⟩ := hfirst
  obtain ⟨last, hpostedLast, hfew', hsaysLast⟩ := hlast
  refine ⟨_, (hpostedFirst.trans hown).trans hpostedLast, ?_, ?_⟩
  · simp only [List.length_append]
    omega
  · have hnil {l : List IndBody} (hl : ∀ b ∈ l, kinds b) : l.filter which = [] :=
      List.filter_eq_nil_iff.2 fun b hb => by simp [hkinds b (hl b hb)]
    rw [List.filter_append, List.filter_append, hnil hsaysFirst, hnil hsaysLast, List.nil_append, List.append_nil]

/-- Around the turn of the only taker that posts a kind. -/
theorem State.takes_posted_around {s : State} {order : List Taker} {x : Taker} (hnodup : order.Nodup)
    (hx : x ∈ order) {which : IndBody → Bool}
    (hwhich : ∀ t, t ≠ x → ∀ b, takerSays t b → which b = false) :
    ∃ before after, order = before ++ x :: after ∧ x ∉ before ∧
      ∀ own, State.Posted own (s.takes false before) ((s.takes false before).take false x) →
        own.length ≤ recordRoom x → ∃ bodies, State.Posted bodies s (s.takes false order) ∧
          bodies.length ≤ walkRoom order ∧ bodies.filter which = own.filter which := by
  obtain ⟨before, after, rfl⟩ := List.append_of_mem hx
  rw [List.nodup_append, List.nodup_cons] at hnodup
  obtain ⟨-, ⟨hafter, -⟩, hdisjoint⟩ := hnodup
  have hbefore : x ∉ before := fun hin => hdisjoint _ hin _ List.mem_cons_self rfl
  refine ⟨before, after, rfl, hbefore, fun own hown hfew => ?_⟩
  have hsilent {l : List Taker} (hl : x ∉ l) (b : IndBody) (hb : ∃ t ∈ l, takerSays t b) : which b = false := by
    obtain ⟨t, ht, hsays⟩ := hb
    exact hwhich t (fun heq => hl (heq ▸ ht)) b hsays
  obtain ⟨bodies, hposted, hlength, hfilter⟩ := State.posted_around (kinds := fun b => which b = false)
    ((s.takes_says false before).mono (Nat.le_refl _) (hsilent hbefore))
    (hown.then_eq (u := ((s.takes false before).take false x).retarget) rfl rfl)
    ((State.takes_says _ false after).mono (Nat.le_refl _) (hsilent hafter)) fun _ hb => hb
  have hroom : walkRoom (x :: after) = recordRoom x + walkRoom after := by simp [walkRoom]
  rw [State.takes_append, State.takes_cons]
  refine ⟨bodies, hposted, ?_, hfilter⟩
  rw [walkRoom_append, hroom]
  omega

/-- The records of a whole start, of one kind. -/
theorem State.walked_posts {s : State} {env : Env} {bodies : List IndBody}
    (h : State.Posted bodies (s.begun.linked env) (s.walked env)) (hfew : bodies.length ≤ 16) {kind : Nat}
    {which : IndBody → Bool} (hkind : ∀ b, which b = true → b.kindCode = kind) :
    Spec.Posts (s.timer.counter + 1) kind which (bodies.filter which) s (s.walked env) := by
  rw [← s.begun_counter env]
  exact Spec.Posts.of_ind (h.posts hfew hkind) (s.begun_linked env).2.2.1

/-- A start whose records of a kind are those of one taker. -/
theorem State.walked_posts_around {s : State} {env : Env} {x : Taker} {kind : Nat}
    (hkind : ∀ t, t ≠ x → ∀ b, takerSays t b → Spec.ofKind kind b = false) :
    ∃ before after, takeOrder env.order = before ++ x :: after ∧ x ∉ before ∧
      ∀ own, State.Posted own ((s.begun.linked env).takes false before)
          (((s.begun.linked env).takes false before).take false x) → own.length ≤ recordRoom x →
        Spec.Posts (s.timer.counter + 1) kind (Spec.ofKind kind) (own.filter (Spec.ofKind kind)) s
          (s.walked env) := by
  obtain ⟨before, after, horder, hnot, hown⟩ := State.takes_posted_around (s := s.begun.linked env)
    (takeOrder_nodup env.order) (mem_takeOrder x env.order) hkind
  refine ⟨before, after, horder, hnot, fun own hposted hfew => ?_⟩
  obtain ⟨bodies, hwalk, hlength, hfilter⟩ := hown own hposted hfew
  rw [← hfilter]
  exact State.walked_posts hwalk (hlength.trans_eq (walkRoom_takeOrder _)) fun b => Spec.kindCode_of_ofKind

/-! ### BANK_SWAPPED (R142) and PROBE_READY (R100) -/

theorem ofKind_bank {t : Taker} (ht : t ≠ .bank) (b : IndBody) (h : takerSays t b) : Spec.ofKind 3 b = false := by
  cases t with
  | bank => exact absurd rfl ht
  | frameStore | probe =>
    obtain ⟨n, rfl⟩ := h
    rfl
  | channel k =>
    obtain ⟨st, cause, rfl⟩ := h
    rfl
  | master => rcases h with rfl | ⟨st, format, rfl⟩ | ⟨k, st, cause, rfl⟩ <;> rfl
  | acquisition =>
    obtain ⟨st, format, rfl⟩ := h
    rfl
  | write => exact h.elim

theorem ofKind_probe {t : Taker} (ht : t ≠ .probe) (b : IndBody) (h : takerSays t b) : Spec.ofKind 6 b = false := by
  cases t with
  | probe => exact absurd rfl ht
  | frameStore =>
    obtain ⟨n, rfl⟩ := h
    rfl
  | channel k =>
    obtain ⟨st, cause, rfl⟩ := h
    rfl
  | bank => rcases h with ⟨r, rfl⟩ | ⟨st, format, rfl⟩ | rfl <;> rfl
  | master => rcases h with rfl | ⟨st, format, rfl⟩ | ⟨k, st, cause, rfl⟩ <;> rfl
  | acquisition =>
    obtain ⟨st, format, rfl⟩ := h
    rfl
  | write => exact h.elim

theorem State.takes_banks_before {s : State} {order : List Taker} (h : .bank ∉ order) :
    (s.takes false order).banks = s.banks ∧ (s.takes false order).swapDue = s.swapDue := by
  have hbanks : (s.takes false order).banks = s.banks :=
    (State.takeAll_banks false order s).trans (if_neg fun hall => h hall.1)
  exact ⟨hbanks, State.swapDue_of_eq hbanks (State.takeAll_frame false order s).2.1⟩

/-- R142, R145: the records of a swap, by kind. -/
theorem State.swap_says (s : State) : ∃ own, State.Posted own s s.swap ∧ own.length ≤ 3 ∧
    own.filter (Spec.ofKind 3) = [.bankSwapped (s.banks.revision + 1)] ∧
    own.filter (Spec.ofKind 8) = if s.mode.mode = .setup then [.modeChange .run] else [] := by
  obtain ⟨bodies, hposted, hfew, hkinds⟩ := s.swap_posted
  have hnone (kind : Nat) (hkind : kind ≠ 0) : bodies.filter (Spec.ofKind kind) = [] := by
    refine List.filter_eq_nil_iff.2 fun b hb hof => ?_
    obtain ⟨st, format, rfl⟩ := hkinds b hb
    exact hkind (Spec.kindCode_of_ofKind hof).symm
  refine ⟨_, hposted, ?_, ?_, ?_⟩
  · rw [List.length_cons, List.length_append]
    split <;> simp <;> omega
  · rw [List.filter_cons_of_pos (by rfl), List.filter_append, hnone 3 (by decide)]
    split <;> rfl
  · rw [List.filter_cons_of_neg (by simp [Spec.ofKind, IndBody.kindCode]), List.filter_append, hnone 8 (by decide)]
    split <;> rfl

theorem State.walked_bankSwapped (s : State) (env : Env) :
    Spec.Posts (s.timer.counter + 1) 3 (Spec.ofKind 3)
      (if Spec.swaps s then [.bankSwapped (s.banks.revision + 1)] else []) s (s.walked env) := by
  obtain ⟨before, after, -, hnot, hown⟩ := State.walked_posts_around (s := s) (env := env) (kind := 3)
    fun t ht => ofKind_bank ht
  obtain ⟨hbanks, hdue⟩ := (State.takes_banks_before (s := s.begun.linked env) hnot)
  obtain ⟨-, -, -, -, -, hbanks', -, -, -, hdue', -⟩ := s.begun_linked env
  rw [hbanks'] at hbanks
  rw [hdue'] at hdue
  rw [Spec.swaps_eq]
  cases hswap : s.swapDue with
  | true =>
    obtain ⟨own, hposted, hfew, hthree, -⟩ := ((s.begun.linked env).takes false before).swap_says
    have hposts := hown own (by rw [State.take, State.bankStart, if_pos (hdue.trans hswap)]; exact hposted) hfew
    rwa [hthree, hbanks] at hposts
  | false =>
    have hnone : ((s.begun.linked env).takes false before).bankStart = (s.begun.linked env).takes false before :=
      if_neg (by simp [hdue, hswap])
    exact hown [] (by rw [State.take, hnone]; exact .of_eq rfl rfl) (by simp)

theorem State.walked_probeReady (s : State) (env : Env) :
    Spec.Posts (s.timer.counter + 1) 6 (Spec.ofKind 6)
      (match s.probe with
        | .waiting k _ _ => [.probeReady k]
        | _ => []) s (s.walked env) := by
  obtain ⟨before, after, -, -, hown⟩ := State.walked_posts_around (s := s) (env := env) (kind := 6)
    fun t ht => ofKind_probe ht
  have hprobe : ((s.begun.linked env).takes false before).probe = s.probe :=
    (State.takeAll_frame false before _).2.2.2.1.trans (s.begun_linked env).2.2.2.2.2.2.2.1
  have hposted := ((s.begun.linked env).takes false before).posted_probePost
  rw [hprobe] at hposted
  cases hwait : s.probe with
  | waiting k u v =>
    rw [hwait] at hposted
    exact hown [.probeReady k] hposted (by simp [recordRoom])
  | idle | ready r =>
    rw [hwait] at hposted
    exact hown [] hposted (by simp)

/-! ### MODE_CHANGE (R163, R145, R167) -/

/-- No swap can change the mode. -/
def State.ModeStays (s : State) : Prop := s.swapDue = false ∨ s.mode.mode ≠ .setup

/-- A record of another kind than MODE_CHANGE. -/
def NoModeChange (b : IndBody) : Prop := Spec.ofKind 8 b = false

theorem takerSays_noModeChange {t : Taker} (hbank : t ≠ .bank) (hmaster : t ≠ .master) {b : IndBody}
    (h : takerSays t b) : NoModeChange b := by
  cases t with
  | bank => exact absurd rfl hbank
  | master => exact absurd rfl hmaster
  | frameStore | probe =>
    obtain ⟨n, rfl⟩ := h
    rfl
  | channel k =>
    obtain ⟨st, cause, rfl⟩ := h
    rfl
  | acquisition =>
    obtain ⟨st, format, rfl⟩ := h
    rfl
  | write => exact h.elim

theorem State.take_noModeChange {s : State} {t : Taker} (hbank : t = .bank → s.ModeStays)
    (hawake : t = .master → ¬ s.sleepsNow) :
    State.Tells (recordRoom t) NoModeChange s (s.take false t) := by
  by_cases hmaster : t = .master
  · subst hmaster
    rw [State.take, State.masterStart_awake (hawake rfl)]
    exact State.tells_of_eq rfl rfl
  · by_cases ht : t = .bank
    · subst ht
      rw [State.take, State.bankStart]
      split
      · next hdue =>
        obtain ⟨own, hposted, hfew, -, height⟩ := s.swap_says
        rw [if_neg ((hbank rfl).resolve_left (by simp [hdue])), List.filter_eq_nil_iff] at height
        exact ⟨own, hposted, hfew, fun b hb => by simpa [NoModeChange] using height b hb⟩
      · exact State.tells_of_eq rfl rfl
    · exact (s.take_says false t).mono (Nat.le_refl _) fun b hb => takerSays_noModeChange ht hmaster hb

theorem State.ModeStays.take {s : State} (h : s.ModeStays) {t : Taker} (hawake : t = .master → ¬ s.sleepsNow) :
    (s.take false t).retarget.ModeStays := by
  have hmode : (s.take false t).mode = s.mode := by
    rw [State.take_mode_awake false hawake, if_neg fun hall => h.elim (by simp [hall.2.1]) fun hne => hne hall.2.2]
  rcases h with hdue | hne
  · have hbanks := s.take_banks false t
    rw [if_neg fun hall => by simp [hdue] at hall] at hbanks
    exact .inl ((State.swapDue_of_eq (t := (s.take false t).retarget) hbanks (by simp)).trans hdue)
  · exact .inr (by rw [State.retarget_mode, hmode]; exact hne)

/-- Awake, a walk posts a MODE_CHANGE only in a swap out of SETUP. -/
theorem State.Awake.takes_noModeChange {order : List Taker} {s : State} (h : s.Awake order) (hnodup : order.Nodup)
    (hstays : s.ModeStays ∨ .bank ∉ order) :
    State.Tells (walkRoom order) NoModeChange s (s.takes false order) := by
  induction order generalizing s with
  | nil => exact State.tells_of_eq rfl rfl
  | cons t ts ih =>
    obtain ⟨hnot, hts⟩ := List.nodup_cons.1 hnodup
    have hawake := h.not_sleepsNow (t := t) List.mem_cons_self
    have hbank : t = .bank → s.ModeStays := fun heq =>
      hstays.resolve_right fun hnone => hnone (heq ▸ List.mem_cons_self)
    have hrest : (s.take false t).retarget.ModeStays ∨ .bank ∉ ts :=
      hstays.imp (fun hs => hs.take hawake) fun hnone hin => hnone (List.mem_cons_of_mem _ hin)
    exact State.Tells.trans ((State.take_noModeChange hbank hawake).then_eq (u := (s.take false t).retarget) rfl rfl)
      (ih (h.take hnot false) hts hrest)

/-- Awake, with no swap out of SETUP, there is no MODE_CHANGE. -/
theorem State.walked_modeChange_none {s : State} {env : Env} (hfollows : s.mode.mode = .dimming → s.TargetFollows)
    (hsleeps : Spec.sleeps s = false) (hstays : s.ModeStays) :
    Spec.Posts (s.timer.counter + 1) 8 (Spec.ofKind 8) [] s (s.walked env) := by
  obtain ⟨-, hmodes, -, -, -, -, -, -, -, hdue, -⟩ := s.begun_linked env
  have hstays' : (s.begun.linked env).ModeStays := by rwa [State.ModeStays, hdue, hmodes]
  obtain ⟨bodies, hposted, hfew, hkinds⟩ := (State.begun_awake hfollows hsleeps env (takeOrder env.order)).takes_noModeChange
    (takeOrder_nodup _) (.inl hstays')
  have hnil : bodies.filter (Spec.ofKind 8) = [] :=
    List.filter_eq_nil_iff.2 fun b hb => by simpa [NoModeChange] using hkinds b hb
  rw [← hnil]
  exact State.walked_posts hposted (hfew.trans_eq (walkRoom_takeOrder _)) fun b => Spec.kindCode_of_ofKind

/-- R145: a swap out of SETUP posts the change to RUN. -/
theorem State.walked_modeChange_run {s : State} {env : Env} (hdue : s.swapDue = true) (hsetup : s.mode.mode = .setup) :
    Spec.Posts (s.timer.counter + 1) 8 (Spec.ofKind 8) [.modeChange .run] s (s.walked env) := by
  obtain ⟨-, hmodes, -, -, -, -, -, -, -, hdue', -⟩ := s.begun_linked env
  have hsetup' : (s.begun.linked env).mode.mode = .setup := by rw [hmodes, hsetup]
  have hnodup := takeOrder_nodup env.order
  obtain ⟨before, after, horder⟩ := List.append_of_mem (mem_takeOrder .bank env.order)
  rw [horder] at hnodup
  have hawake : (s.begun.linked env).Awake (before ++ .bank :: after) := State.awake_of_mode (by simp [hsetup'])
  have hturn := hawake.takes hnodup false
  rw [List.nodup_append, List.nodup_cons] at hnodup
  obtain ⟨hbefore, ⟨hafter, hnodup'⟩, hdisjoint⟩ := hnodup
  have hnot : Taker.bank ∉ before := fun hin => hdisjoint _ hin _ List.mem_cons_self rfl
  obtain ⟨-, hdue''⟩ := State.takes_banks_before (s := s.begun.linked env) hnot
  have hswap : ((s.begun.linked env).takes false before).take false .bank =
      ((s.begun.linked env).takes false before).swap := if_pos (by rw [hdue'', hdue', hdue])
  have hmode := hawake.append_left.takes_mode hbefore false
  rw [if_neg fun hall => hnot hall.1] at hmode
  obtain ⟨own, hposted, hthree, -, height⟩ := ((s.begun.linked env).takes false before).swap_says
  rw [if_pos (by rw [hmode, hsetup'])] at height
  have hstays : (((s.begun.linked env).takes false before).take false .bank).retarget.ModeStays := by
    refine .inl (State.not_swapDue_of_swapped (s := (s.begun.linked env).takes false before) ?_)
    rw [State.retarget_banks, hswap, State.swap_banks]
  obtain ⟨bodies, hwalk, hfew, hfilter⟩ := State.posted_around (which := Spec.ofKind 8)
    (hawake.append_left.takes_noModeChange hbefore (.inr hnot))
    (hposted.then_eq (u := (((s.begun.linked env).takes false before).take false .bank).retarget)
      (by rw [hswap]; rfl) (by rw [hswap]; rfl))
    ((hturn.take hafter false).takes_noModeChange hnodup' (.inl hstays)) fun _ hb => hb
  rw [height] at hfilter
  have hwalked : s.walked env = State.takes false after
      (((s.begun.linked env).takes false before).take false .bank).retarget := by
    rw [State.walked, horder, State.takes_append, State.takes_cons]
  have hroom : walkRoom before + own.length + walkRoom after ≤ 16 := by
    have htotal := walkRoom_takeOrder env.order
    rw [horder, walkRoom_append] at htotal
    have hbank : walkRoom (.bank :: after) = 3 + walkRoom after := by simp [walkRoom, recordRoom]
    omega
  rw [← hfilter]
  exact State.walked_posts (hwalked ▸ hwalk) (hfew.trans hroom) fun b => Spec.kindCode_of_ofKind

/-- R167: the entry to STANDBY posts its change of mode. -/
theorem State.walked_modeChange_standby {s : State} {env : Env} (hfollows : s.TargetFollows)
    (hsleeps : Spec.sleeps s = true) :
    Spec.Posts (s.timer.counter + 1) 8 (Spec.ofKind 8) [.modeChange .standby] s (s.walked env) := by
  have hdimming := ((Spec.sleeps_iff s).1 hsleeps).1
  obtain ⟨before, after, horder, hnot, hmode, hwalked, -⟩ := State.walked_asleep (env := env) hfollows hsleeps
  have hnodup := takeOrder_nodup env.order
  rw [horder, List.nodup_append, List.nodup_cons] at hnodup
  obtain ⟨hbefore, ⟨-, hafter⟩, -⟩ := hnodup
  have hstays : (s.begun.linked env).ModeStays := .inr (by rw [(s.begun_linked env).2.1, hdimming]; decide)
  have hfallen : ((s.begun.linked env).takes false before).fallen.mode = { s.mode with mode := .standby } := by
    rw [State.fallen, State.retarget_mode, State.enterStandby_mode, hmode]
  obtain ⟨rest, hposted, hlength, hkinds⟩ := State.enterStandby_posted
    { (s.begun.linked env).takes false before with master :=
      { ((s.begun.linked env).takes false before).master with
        level := ((s.begun.linked env).takes false before).master.next } }
  obtain ⟨bodies, hwalk, hfew, hfilter⟩ := State.posted_around (which := Spec.ofKind 8)
    ((State.awake_of_not_mem _ hnot).takes_noModeChange hbefore (.inl hstays))
    ((hposted.after_eq (s := (s.begun.linked env).takes false before) rfl rfl).then_eq
      (u := ((s.begun.linked env).takes false before).fallen) rfl rfl)
    ((State.awake_of_mode (order := after) (by simp [hfallen])).takes_noModeChange hafter
      (.inl (.inr (by simp [hfallen])))) fun _ hb => hb
  have hown : List.filter (Spec.ofKind 8) (.modeChange .standby :: rest) = [.modeChange .standby] := by
    rw [List.filter_cons_of_pos (by rfl), List.filter_eq_nil_iff.2]
    intro b hb
    rcases hkinds b hb with ⟨st, format, rfl⟩ | ⟨k, st, cause, rfl⟩ <;> simp [Spec.ofKind, IndBody.kindCode]
  rw [hown] at hfilter
  have hroom : walkRoom before + (IndBody.modeChange .standby :: rest).length + walkRoom after ≤ 16 := by
    have htotal := walkRoom_takeOrder env.order
    rw [horder, walkRoom_append] at htotal
    have hmaster : walkRoom (.master :: after) = 6 + walkRoom after := by simp [walkRoom, recordRoom]
    rw [List.length_cons]
    omega
  rw [← hfilter]
  exact State.walked_posts (hwalked ▸ hwalk) (hfew.trans hroom) fun b => Spec.kindCode_of_ofKind

/-- R142, R145, R167, R100: the records of a start. -/
theorem State.walked_startRecords {s : State} (hfollows : s.TargetFollows) (env : Env) :
    Spec.StartRecords s (s.walked env) := by
  refine ⟨s.walked_bankSwapped env, ?_, s.walked_probeReady env⟩
  rw [Spec.swaps_eq]
  by_cases hrun : s.swapDue = true ∧ s.mode.mode = .setup
  · rw [if_pos hrun]
    exact State.walked_modeChange_run hrun.1 hrun.2
  · rw [if_neg hrun]
    cases hsleeps : Spec.sleeps s with
    | true => exact State.walked_modeChange_standby hfollows hsleeps
    | false =>
      refine State.walked_modeChange_none (fun _ => hfollows) hsleeps ?_
      by_cases hdue : s.swapDue = true
      · exact .inr fun hsetup => hrun ⟨hdue, hsetup⟩
      · exact .inl (by simpa using hdue)

end Sys2Proof.Machine
end

section
/-! PROOFS. Chapter 2, the choice of the frame to show in the timer's own start (R26 to R28), and the slip
(R30, R31). -/

namespace Sys2Proof.Machine

/-! ### A swap that changes the canvas size (R9, R29) -/

/-- R9: a swap due now changes the canvas size. -/
def State.resizesNow (s : State) : Prop :=
  s.swapDue = true ∧ s.active.scene.canvasDiffers s.pendingBank.scene = true

theorem Spec.resizes_iff (s : State) : Spec.resizes s = true ↔ s.resizesNow := by
  unfold Spec.resizes State.resizesNow Scene.canvasDiffers
  rw [Spec.swaps_eq]
  simp only [Bool.and_eq_true, Bool.or_eq_true, decide_eq_true_eq, ne_comm]

theorem State.resizesNow_congr {s t : State} (hbanks : t.banks = s.banks) (hprofiles : t.profiles = s.profiles) :
    t.resizesNow ↔ s.resizesNow := by
  have hpending : t.pendingBank = s.pendingBank := congrArg Banks.pending hbanks
  unfold State.resizesNow
  rw [State.swapDue_of_eq hbanks hprofiles, State.active_of_banks hbanks, hpending]

theorem State.begun_resizes (s : State) (env : Env) : (s.begun.linked env).resizesNow ↔ s.resizesNow :=
  State.resizesNow_congr (s.begun_linked env).2.2.2.2.2.1 (s.begun_linked env).2.2.2.2.2.2.1

theorem State.not_resizesNow_take {s : State} (h : ¬ s.resizesNow) (t : Taker) :
    ¬ (s.take false t).retarget.resizesNow := by
  have hbanks := s.take_banks false t
  by_cases hswap : t = .bank ∧ s.swapDue = true
  · rw [if_pos hswap] at hbanks
    have hnone : (s.take false t).retarget.swapDue = false := State.not_swapDue_of_swapped hbanks
    exact fun hres => by simp [hres.1] at hnone
  · rw [if_neg hswap] at hbanks
    exact mt (State.resizesNow_congr (t := (s.take false t).retarget) hbanks (by simp)).1 h

/-- R142: the roles are exchanged, and BANK_SWAPPED is posted. -/
def State.rolesSwapped (s : State) : State :=
  State.post (.bankSwapped s.banks.swapped.revision) { s with banks := s.banks.swapped }

/-- R145: out of SETUP a swap leads to RUN. -/
def State.leaveSetup (s : State) : State := if s.mode.mode = .setup then s.changeMode .run else s

theorem State.swap_eq (s : State) : s.swap =
    (if s.active.scene.canvasDiffers s.pendingBank.scene then s.rolesSwapped.canvasChanged
      else s.rolesSwapped).leaveSetup := rfl

theorem State.leaveSetup_kept (s : State) :
    s.leaveSetup.acq = s.acq ∧ s.leaveSetup.frames = s.frames ∧ s.leaveSetup.timer = s.timer ∧
    s.leaveSetup.banks = s.banks := by
  unfold State.leaveSetup
  split <;> simp

theorem State.rolesSwapped_eq (s : State) : s.rolesSwapped = { s with
    banks := s.banks.swapped
    ind := s.ind.posted (.bankSwapped (s.banks.revision + 1)) s.timer.counter } :=
  State.post_eq _ _

/-- R142: a swap that keeps the canvas size. -/
theorem State.bankStart_same_size {s : State} (h : ¬ s.resizesNow) :
    s.bankStart.acq = s.acq ∧ s.bankStart.frames = s.frames ∧ s.bankStart.timer = s.timer := by
  unfold State.bankStart
  split
  · next hdue =>
    rw [State.swap_eq, if_neg fun hdiffers => h ⟨hdue, hdiffers⟩]
    obtain ⟨hacq, hframes, htimer, -⟩ := s.rolesSwapped.leaveSetup_kept
    rw [State.rolesSwapped_eq] at hacq hframes htimer ⊢
    exact ⟨hacq, hframes, htimer⟩
  · exact ⟨rfl, rfl, rfl⟩

/-! ### What the other takers leave of the frame store and of the acquisition state -/

theorem State.take_frames {s : State} (hsize : ¬ s.resizesNow) {t : Taker} (ht : t ≠ .frameStore)
    (hawake : t = .master → ¬ s.sleepsNow) : (s.take false t).frames = s.frames := by
  cases t with
  | frameStore => exact absurd rfl ht
  | bank => exact (State.bankStart_same_size hsize).2.1
  | master => rw [State.take, State.masterStart_awake (hawake rfl)]
  | acquisition =>
    by_cases hlocked : s.acq.state.isLocked = true
    · exact (congrArg State.frames (State.acquisitionStart_keeps hlocked).1 :)
    · exact congrArg State.frames (State.acquisitionStart_idle fun h => hlocked h.1)
  | write => rfl
  | _ => simp [State.take]

theorem State.take_acq_same {s : State} (hsize : ¬ s.resizesNow) {t : Taker} (ht : t ≠ .acquisition)
    (hawake : t = .master → ¬ s.sleepsNow) : (s.take false t).acq = s.acq := by
  cases t with
  | acquisition => exact absurd rfl ht
  | bank => exact (State.bankStart_same_size hsize).1
  | master => rw [State.take, State.masterStart_awake (hawake rfl)]
  | write => rfl
  | _ => simp [State.take]

theorem State.Awake.takes_frames {order : List Taker} {s : State} (h : s.Awake order) (hnodup : order.Nodup)
    (hsize : ¬ s.resizesNow) (hnot : .frameStore ∉ order) :
    (s.takes false order).frames = s.frames ∧ ¬ (s.takes false order).resizesNow :=
  h.takes_keep (P := fun u => u.frames = s.frames ∧ ¬ u.resizesNow) hnodup ⟨rfl, hsize⟩ fun _ t hu ht hawake =>
    ⟨(State.take_frames hu.2 (fun heq => hnot (heq ▸ ht)) hawake).trans hu.1, State.not_resizesNow_take hu.2 t⟩

theorem State.Awake.takes_acq {order : List Taker} {s : State} (h : s.Awake order) (hnodup : order.Nodup)
    (hsize : ¬ s.resizesNow) (hnot : .acquisition ∉ order) : (s.takes false order).acq = s.acq :=
  (h.takes_keep (align := false) (P := fun u => u.acq = s.acq ∧ ¬ u.resizesNow) hnodup ⟨rfl, hsize⟩
    fun _ t hu ht hawake =>
      ⟨(State.take_acq_same hu.2 (fun heq => hnot (heq ▸ ht)) hawake).trans hu.1,
        State.not_resizesNow_take hu.2 t⟩).1

/-! ### A slip (R30, R31) -/

theorem ignoresOverrun_slip : IgnoresOverrun CaptureFlags.slip := fun _ => rfl

theorem State.countSlip_frames (s : State) : s.countSlip.frames = { s.frames with
    slips := min 65535 (s.frames.slips + 1)
    armed := s.frames.armed && !decide (s.frames.threshold ≤ min 65535 (s.frames.slips + 1)) } := by
  unfold State.countSlip
  cases harmed : s.frames.armed <;> by_cases hle : s.frames.threshold ≤ min 65535 (s.frames.slips + 1) <;>
    simp [harmed, hle]

theorem State.countSlip_flag (s : State) : s.countSlip.ind.flags.slip = true := by
  unfold State.countSlip
  dsimp only
  split
  · rw [State.post_ind, Indications.posted_view ignoresOverrun_slip]
    rfl
  · rfl

/-- R30: the records of a slip. -/
def slipRecords (s : State) : List IndBody :=
  if s.frames.armed ∧ s.frames.threshold ≤ min 65535 (s.frames.slips + 1) then
    [.slipThreshold (min 65535 (s.frames.slips + 1))]
  else []

/-- What the choice at a start makes of the slip count, the flag and the threshold. -/
structure State.Slipped (slip : Prop) (s t : State) : Prop where
  counted : slip → t.frames.slips = min 65535 (s.frames.slips + 1) ∧ t.ind.flags.slip = true ∧
    t.frames.armed = (s.frames.armed && !decide (s.frames.threshold ≤ min 65535 (s.frames.slips + 1))) ∧
    State.Posted (slipRecords s) s t
  kept : ¬ slip → t.frames.slips = s.frames.slips ∧ t.ind.flags.slip = s.ind.flags.slip ∧
    t.frames.armed = s.frames.armed ∧ State.Posted [] s t

theorem State.slipped_false (s : State) (b : Option BufNo) : State.Slipped False s (s.changeShowing b) := by
  rw [State.changeShowing_eq]
  exact ⟨False.elim, fun _ => ⟨rfl, rfl, rfl, .of_eq rfl rfl⟩⟩

theorem State.Slipped.congr {p q : Prop} {s t : State} (h : State.Slipped p s t) (hpq : p ↔ q) :
    State.Slipped q s t :=
  ⟨fun hq => h.counted (hpq.2 hq), fun hq => h.kept fun hp => hq (hpq.1 hp)⟩

theorem State.slipped_true (s : State) (b : Option BufNo) : State.Slipped True s (s.changeShowing b).countSlip := by
  have hframes := (s.changeShowing b).countSlip_frames
  have hposted := (s.changeShowing b).posted_countSlip
  rw [State.changeShowing_eq] at hframes hposted ⊢
  refine ⟨fun _ => ⟨?_, State.countSlip_flag _, ?_, hposted.after_eq rfl rfl⟩, fun h => absurd trivial h⟩
  · rw [hframes]
  · rw [hframes]

theorem oneShowing_shownAfter {bufs : Three BufRec} (h : OneShowing bufs) (choice : Option BufNo) :
    OneShowing (shownAfter choice bufs) := by
  cases choice with
  | none => exact h
  | some b =>
    have honly (c : BufNo) (hc : ((showBuffer b bufs).get c).Showing) : c = b := by
      by_contra hne
      rw [showBuffer_get, if_neg hne] at hc
      exact BufRec.toComplete_not_showing _ hc
    exact fun c d hc hd => (honly c hc).trans (honly d hd).symm

/-- R26 to R28, R30: the choice at a start, by the acquisition state and the group base that it finds. -/
theorem State.selectFrame_selects {s : State} (hone : OneShowing s.frames.bufs) :
    (∀ e, s.acq.state = .locked → s.expected = some e →
      Spec.ExpectedShown e s.frames.bufs s.selectFrame.frames.bufs ∧
      State.Slipped (∀ b v, s.selectFrame.frames.bufs.get b ≠ .showing e v) s s.selectFrame) ∧
    (s.acq.state ≠ .locked ∨ s.expected = none →
      Spec.NewestShown s.frames.bufs s.selectFrame.frames.bufs ∧ State.Slipped False s s.selectFrame) := by
  constructor
  · intro e hlocked he
    have hshown := chooseExpected_shown hone e
    have hone' := oneShowing_shownAfter hone (chooseExpected e s.frames.bufs)
    have hbufs : (s.changeShowing (chooseExpected e s.frames.bufs)).frames.bufs =
        shownAfter (chooseExpected e s.frames.bufs) s.frames.bufs := by
      rw [State.changeShowing_eq]
    have hselect : s.selectFrame = s.showExpected e := by
      rw [State.selectFrame, hlocked, he]
    by_cases hslip : ∀ b v, (shownAfter (chooseExpected e s.frames.bufs) s.frames.bufs).get b ≠ .showing e v
    · have hcount : s.showExpected e = (s.changeShowing (chooseExpected e s.frames.bufs)).countSlip := by
        unfold State.showExpected
        dsimp only
        rw [hbufs]
        split
        · next b n v hb =>
          refine if_neg fun hn => ?_
          subst hn
          exact hslip b v (showing_of_showingBuf hb)
        · rfl
      have hafter : s.selectFrame.frames.bufs =
          shownAfter (chooseExpected e s.frames.bufs) s.frames.bufs := by
        rw [hselect, hcount, State.countSlip_bufs, hbufs]
      refine ⟨hafter ▸ hshown, ?_⟩
      rw [hafter, hselect, hcount]
      exact (s.slipped_true _).congr (iff_of_true trivial hslip)
    · obtain ⟨b, v, hb⟩ : ∃ b v,
          (shownAfter (chooseExpected e s.frames.bufs) s.frames.bufs).get b = .showing e v := by
        simpa using hslip
      have hcount : s.showExpected e = s.changeShowing (chooseExpected e s.frames.bufs) := by
        unfold State.showExpected
        dsimp only
        rw [hbufs, showingBuf_of_showing hone' hb]
        exact if_pos rfl
      have hafter : s.selectFrame.frames.bufs =
          shownAfter (chooseExpected e s.frames.bufs) s.frames.bufs := by
        rw [hselect, hcount, hbufs]
      refine ⟨hafter ▸ hshown, ?_⟩
      rw [hafter, hselect, hcount]
      exact (s.slipped_false _).congr (iff_of_false id hslip)
  · intro hnewest
    have hselect : s.selectFrame = s.changeShowing (chooseNewest s.frames.bufs) := by
      unfold State.selectFrame
      split
      · next hlocked he =>
        rcases hnewest with hnot | hnone
        · exact absurd hlocked hnot
        · rw [hnone] at he
          cases he
      · rfl
    rw [hselect]
    refine ⟨?_, s.slipped_false _⟩
    rw [State.changeShowing_eq]
    exact chooseNewest_shown hone

/-! ### The choice over the start (R26) -/

theorem ofKind_slip {t : Taker} (ht : t ≠ .frameStore) (b : IndBody) (h : takerSays t b) :
    Spec.ofKind 7 b = false := by
  cases t with
  | frameStore => exact absurd rfl ht
  | probe =>
    obtain ⟨n, rfl⟩ := h
    rfl
  | channel k =>
    obtain ⟨st, cause, rfl⟩ := h
    rfl
  | bank => rcases h with ⟨r, rfl⟩ | ⟨st, format, rfl⟩ | rfl <;> rfl
  | master => rcases h with rfl | ⟨st, format, rfl⟩ | ⟨k, st, cause, rfl⟩ <;> rfl
  | acquisition =>
    obtain ⟨st, format, rfl⟩ := h
    rfl
  | write => exact h.elim

theorem takerSpares_slip {t : Taker} (ht : t ≠ .frameStore) : takerSpares CaptureFlags.slip t := by
  cases t with
  | frameStore => exact absurd rfl ht
  | channel k => exact fun _ => rfl
  | _ => trivial

theorem filter_slipRecords (s : State) : (slipRecords s).filter (Spec.ofKind 7) = slipRecords s := by
  unfold slipRecords
  split <;> rfl

theorem slipRecords_length (s : State) : (slipRecords s).length ≤ 1 := by
  unfold slipRecords
  split <;> simp

theorem State.begun_frames (s : State) (env : Env) :
    (s.begun.linked env).frames = { s.frames with base := s.begun.frames.base } := by
  unfold State.linked State.begun State.handBase
  dsimp only
  split <;> rfl

/-- A start that neither changes the canvas size nor enters STANDBY, around the turn of the Frame Store Controller:
`v` is the state that it finds. -/
structure State.Turned (s : State) (env : Env) (v : State) : Prop where
  acq     : v.acq.state = s.acq.state ∨ v.acq.state = (s.walked env).acq.state
  finds   : v.frames = { s.frames with base := s.begun.frames.base }
  timer   : v.timer.position = (s.walked env).timer.position
  cadence : v.acq.controls = s.acq.controls
  frames  : (s.walked env).frames = v.selectFrame.frames
  before  : v.ind.flags.slip = s.ind.flags.slip
  after   : (s.walked env).ind.flags.slip = v.selectFrame.ind.flags.slip
  posts   : ∀ own, State.Posted own v v.selectFrame → own.length ≤ 1 →
    Spec.Posts (s.timer.counter + 1) 7 (Spec.ofKind 7) (own.filter (Spec.ofKind 7)) s (s.walked env)

theorem State.walked_turned {s : State} (env : Env) (hfollows : s.mode.mode = .dimming → s.TargetFollows)
    (hsleeps : Spec.sleeps s = false) (hsize : ¬ s.resizesNow) : ∃ v, State.Turned s env v := by
  obtain ⟨before, after, horder, hnot, hown⟩ := State.walked_posts_around (s := s) (env := env) (kind := 7)
    fun t ht => ofKind_slip ht
  have hnodup := takeOrder_nodup env.order
  have hawake := State.begun_awake hfollows hsleeps env (takeOrder env.order)
  have hsize' := mt (s.begun_resizes env).1 hsize
  have hwalked : s.walked env = (s.begun.linked env).takes false (before ++ .frameStore :: after) := by
    rw [State.walked, horder]
  rw [horder] at hnodup hawake
  have hturn := hawake.takes hnodup false
  rw [List.nodup_append, List.nodup_cons] at hnodup
  obtain ⟨hbefore, ⟨hafter, hnodup'⟩, hdisjoint⟩ := hnodup
  rw [State.takes_append, State.takes_cons] at hwalked
  obtain ⟨hframes, hsizeTurn⟩ := hawake.append_left.takes_frames hbefore hsize' hnot
  have hsizeRest := State.not_resizesNow_take hsizeTurn .frameStore
  have hrest := hturn.take hafter false
  have hlasting := (s.walked_lasting env).symm.trans rfl
  have hlastingTurn := State.takes_lasting (s.begun.linked env) before
  refine ⟨(s.begun.linked env).takes false before, ?_, ?_, ?_, ?_, ?_, ?_, ?_, hown⟩
  · by_cases hmem : Taker.acquisition ∈ before
    · have hgone : Taker.acquisition ∉ after := fun hin => hdisjoint _ hmem _ (List.mem_cons_of_mem _ hin) rfl
      have hacq := hrest.takes_acq hnodup' hsizeRest hgone
      rw [← hwalked] at hacq
      refine .inr ?_
      rw [hacq]
      exact congrArg Acquisition.state (State.selectFrame_frame _).2.1.symm
    · exact .inl (congrArg Acquisition.state
        ((hawake.append_left.takes_acq hbefore hsize' hmem).trans (s.begun_linked env).2.2.2.2.1))
  · rw [hframes, State.begun_frames]
  · have hsame := hlastingTurn.trans hlasting
    exact congrArg Lasting.position hsame
  · have hcontrols := congrArg Lasting.controls hlastingTurn
    exact hcontrols.trans (congrArg Acquisition.controls (s.begun_linked env).2.2.2.2.1)
  · rw [hwalked, (hrest.takes_frames hnodup' hsizeRest hafter).1]
    rfl
  · have hview := hawake.append_left.takes_view ignoresOverrun_slip hbefore false
      fun t ht => takerSpares_slip fun heq => hnot (heq ▸ ht)
    rw [hview, (s.begun_linked env).2.2.1]
  · have hview := hrest.takes_view ignoresOverrun_slip hnodup' false
      fun t ht => takerSpares_slip fun heq => hafter (heq ▸ ht)
    rw [hwalked, hview]
    rfl

/-- R30, R31: the slip of a choice, over the whole start. -/
theorem State.Turned.slipCounted {s v : State} {env : Env} (h : State.Turned s env v) {slip : Prop}
    (hslip : State.Slipped slip v v.selectFrame) : Spec.SlipCounted slip s (s.walked env) := by
  have hslips : v.frames.slips = s.frames.slips := by rw [h.finds]
  have harmed : v.frames.armed = s.frames.armed := by rw [h.finds]
  have hthreshold : v.frames.threshold = s.frames.threshold := by rw [h.finds]
  have hrecords : slipRecords v = slipRecords s := by rw [slipRecords, slipRecords, hslips, harmed, hthreshold]
  refine ⟨(s.walked_registers env).2.2.2.2.2.2.2.1, fun hs => ?_, fun hs => ?_⟩
  · obtain ⟨hcount, hflag, harm, hposted⟩ := hslip.counted hs
    have hposts := h.posts _ hposted (slipRecords_length v)
    rw [filter_slipRecords, hrecords] at hposts
    rw [h.frames, h.after]
    exact ⟨by rw [hcount, hslips], hflag, by rw [harm, harmed, hthreshold, hslips], hposts⟩
  · obtain ⟨hcount, hflag, harm, hposted⟩ := hslip.kept hs
    rw [h.frames, h.after]
    exact ⟨hcount.trans hslips, hflag.trans h.before, harm.trans harmed, h.posts _ hposted (by simp)⟩

/-- R26 to R28, R30: the choice of a start, by the state that the Frame Store Controller finds. -/
theorem State.Turned.selected {s v : State} {env : Env} (h : State.Turned s env v) (hone : OneShowing s.frames.bufs) :
    Spec.Selected (decide (v.acq.state = .locked)) s (s.walked env) := by
  have hbufs : v.frames.bufs = s.frames.bufs := by rw [h.finds]
  have hbase : v.frames.base = (s.walked env).frames.base :=
    (congrArg FrameStore.base h.finds).trans (s.walked_registers env).2.2.2.2.2.2.1.symm
  have hexpected : v.expected = (s.walked env).frames.base.map fun base => base + BitVec.ofNat 40
      ((s.walked env).timer.position * s.acq.controls.cadence.d / s.acq.controls.cadence.n) := by
    rw [State.expected, hbase, h.timer, h.cadence]
  obtain ⟨hlocked, hnewest⟩ := State.selectFrame_selects (s := v) (hbufs ▸ hone)
  rw [hbufs] at hlocked hnewest
  refine ⟨fun base e hdecide hthis he => ?_, fun hcase => ?_⟩
  · obtain ⟨hshown, hslip⟩ := hlocked e (by simpa using hdecide) (by rw [hexpected, hthis, he]; rfl)
    have hcounted := h.slipCounted hslip
    rw [← h.frames] at hshown hcounted
    exact ⟨hshown, hcounted⟩
  · obtain ⟨hshown, hslip⟩ := hnewest (hcase.imp (fun hnot => by simpa using hnot) fun hnone => by
      rw [hexpected, hnone]
      rfl)
    rw [← h.frames] at hshown
    exact ⟨hshown, h.slipCounted hslip⟩

/-- R26, R29: the buffers and the slip of a start, before or after the pairing at it. -/
theorem State.walked_selection {s : State} (env : Env) (hfollows : s.TargetFollows) :
    Spec.Selection s (s.walked env) := by
  intro hsound hresizes hsleeps
  have hsize : ¬ s.resizesNow := fun h => by simp [(Spec.resizes_iff s).2 h] at hresizes
  obtain ⟨v, hv⟩ := State.walked_turned env (fun _ => hfollows) hsleeps hsize
  have hselected := hv.selected hsound.oneShowing
  constructor
  · intro hsame
    have hstate : v.acq.state = s.acq.state := hv.acq.elim id fun h => h.trans hsame
    rwa [hstate] at hselected
  · intro _
    by_cases hlocked : v.acq.state = .locked
    · exact .inl (by simpa [hlocked] using hselected)
    · exact .inr (by simpa [hlocked] using hselected)

end Sys2Proof.Machine
end

section
/-! PROOFS. Chapter 7, a swap at the timer's own start that changes the canvas size (R9, R29, R144). -/

namespace Sys2Proof.Machine

/-! ### The takers before and after the Bank Controller's turn -/

/-- A start can pair: alignment is done in a locked state (R12). -/
def State.canPair (s : State) : Prop := s.acq.state.isLocked = true ∧ s.acq.alignDue = false

/-- A record of another kind than INPUT_STATE. -/
def NoInputState (b : IndBody) : Prop := Spec.ofKind 0 b = false

theorem takerSays_noInputState {t : Taker} (hbank : t ≠ .bank) (hmaster : t ≠ .master) (hacq : t ≠ .acquisition)
    {b : IndBody} (h : takerSays t b) : NoInputState b := by
  cases t with
  | bank => exact absurd rfl hbank
  | master => exact absurd rfl hmaster
  | acquisition => exact absurd rfl hacq
  | frameStore | probe =>
    obtain ⟨n, rfl⟩ := h
    rfl
  | channel k =>
    obtain ⟨st, cause, rfl⟩ := h
    rfl
  | write => exact h.elim

/-- Where no pair can come, the other takers leave the acquisition registers and the timer. -/
theorem State.take_unpaired {s : State} (hpair : ¬ s.canPair) {t : Taker} (ht : t ≠ .bank)
    (hawake : t = .master → ¬ s.sleepsNow) :
    (s.take false t).acq = s.acq ∧ (s.take false t).timer = s.timer ∧
      State.Tells (recordRoom t) NoInputState s (s.take false t) := by
  by_cases hsame : t = .master ∨ t = .acquisition
  · rcases hsame with rfl | rfl
    · rw [State.take, State.masterStart_awake (hawake rfl)]
      exact ⟨rfl, rfl, State.tells_of_eq rfl rfl⟩
    · have hidle : s.take false .acquisition = s :=
        State.acquisitionStart_idle fun hall => hpair ⟨hall.1, hall.2.1⟩
      rw [hidle]
      exact ⟨rfl, rfl, State.tells_of_eq rfl rfl⟩
  · obtain ⟨hmaster, hacq⟩ := not_or.1 hsame
    have htells := (s.take_says false t).mono (Nat.le_refl _) fun b => takerSays_noInputState ht hmaster hacq
    cases t with
    | bank => exact absurd rfl ht
    | master => exact absurd rfl hmaster
    | acquisition => exact absurd rfl hacq
    | write => exact ⟨rfl, rfl, htells⟩
    | _ => exact ⟨by simp [State.take], by simp [State.take], htells⟩

theorem State.Awake.takes_unpaired {order : List Taker} {s : State} (h : s.Awake order) (hnodup : order.Nodup)
    (hbank : .bank ∉ order) (hpair : ¬ s.canPair) :
    (s.takes false order).acq = s.acq ∧ (s.takes false order).timer = s.timer ∧
      State.Tells (walkRoom order) NoInputState s (s.takes false order) := by
  induction order generalizing s with
  | nil => exact ⟨rfl, rfl, State.tells_of_eq rfl rfl⟩
  | cons t ts ih =>
    obtain ⟨hnot, hts⟩ := List.nodup_cons.1 hnodup
    obtain ⟨ht, hbank'⟩ := not_or.1 (mt List.mem_cons.2 hbank)
    obtain ⟨hacq, htimer, htells⟩ := State.take_unpaired hpair (Ne.symm ht)
      (h.not_sleepsNow (t := t) List.mem_cons_self)
    have hpair' : ¬ (s.take false t).retarget.canPair := by
      rw [State.canPair, State.retarget_acq, hacq]
      exact hpair
    obtain ⟨hacq', htimer', htells'⟩ := ih (h.take hnot false) hts hbank' hpair'
    rw [State.takes_cons]
    exact ⟨hacq'.trans hacq, htimer'.trans htimer,
      State.Tells.trans (htells.then_eq (u := (s.take false t).retarget) rfl rfl) htells'⟩

/-- The records of a part of the start without the Bank Controller's turn. -/
theorem State.Awake.takes_records {order : List Taker} {s : State} (h : s.Awake order) (hnodup : order.Nodup)
    (hbank : .bank ∉ order) : ∃ bodies, State.Posted bodies s (s.takes false order) ∧
      bodies.length ≤ walkRoom order ∧ (¬ s.canPair → ∀ b ∈ bodies, NoInputState b) := by
  by_cases hpair : s.canPair
  · obtain ⟨bodies, hposted, hfew, -⟩ := s.takes_says false order
    exact ⟨bodies, hposted, hfew, fun hnot => absurd hpair hnot⟩
  · obtain ⟨-, -, bodies, hposted, hfew, hkinds⟩ := h.takes_unpaired hnodup hbank hpair
    exact ⟨bodies, hposted, hfew, fun _ => hkinds⟩

/-- R13, R14: a pair leaves the measured format. -/
theorem State.pair_measured {s : State} (h : s.acq.state.isLocked = true) (start cadence : Nat) :
    (s.pair start cadence).acq.measured = s.acq.measured := by
  have hmoved (staged good bad : Nat) {new : AcqState} (hnew : new = .locking ∨ new = .locked) :
      ((s.paired staged good bad).moveTo new []).acq.measured = s.acq.measured := by
    rcases hnew with rfl | rfl <;> rw [State.moveTo_within (s.paired staged good bad) [] rfl h] <;> rfl
  rcases (AcqState.isLocked_eq_true _).1 h with hstate | hstate
  · rw [State.pair_locking hstate]
    split
    · exact hmoved _ _ _ (.inr rfl)
    · rfl
  · rw [State.pair_locked hstate]
    split
    · exact hmoved _ _ _ (.inl rfl)
    · rfl

theorem State.acquisitionStart_measured {s : State} (hlocked : s.acq.state.isLocked = true) :
    s.acquisitionStart.acq.measured = s.acq.measured := by
  by_cases hturn : s.acq.state.isLocked = true ∧ s.acq.alignDue = false ∧ s.timer.position = 0
  · obtain ⟨-, hdue, hposition⟩ := hturn
    rw [State.acquisitionStart_pairs hlocked hdue hposition]
    cases hwait : s.acq.waitCadence with
    | none => rw [State.positionZero_alone hwait]
    | some point =>
      rw [State.positionZero_waiting hwait]
      exact State.pair_measured (s := s.cadenceTaken) hlocked _ _
  · rw [State.acquisitionStart_idle hturn]

/-- In a locked state the takers other than the bank leave a locked state and the measured format. -/
theorem State.Awake.takes_measured {order : List Taker} {s : State} (h : s.Awake order) (hnodup : order.Nodup)
    (hbank : .bank ∉ order) (hlocked : s.acq.state.isLocked = true) :
    (s.takes false order).acq.state.isLocked = true ∧ (s.takes false order).acq.measured = s.acq.measured := by
  refine h.takes_keep (P := fun u => u.acq.state.isLocked = true ∧ u.acq.measured = s.acq.measured) hnodup
    ⟨hlocked, rfl⟩ fun u t hu ht hawake => ?_
  obtain ⟨hlocked', hmeasured⟩ := hu
  cases t with
  | bank => exact absurd ht hbank
  | acquisition =>
    exact ⟨(State.acquisitionStart_keeps hlocked').2, (State.acquisitionStart_measured hlocked').trans hmeasured⟩
  | master =>
    rw [State.take, State.masterStart_awake (hawake rfl)]
    exact ⟨hlocked', hmeasured⟩
  | write => exact ⟨hlocked', hmeasured⟩
  | _ => simp [State.take, hlocked', hmeasured]

/-! ### The buffers stay empty (R29) -/

theorem State.selectFrame_empty {s : State} (h : s.frames.bufs = Three.all .empty) :
    s.selectFrame.frames.bufs = Three.all .empty := by
  have hshow (choice : Option BufNo) (hchoice : choice = none) :
      (s.changeShowing choice).frames.bufs = Three.all .empty := by
    rw [hchoice, State.changeShowing_eq]
    exact h
  have hnewest : chooseNewest s.frames.bufs = none := by rw [h]; rfl
  have hexpected (e : BitVec 40) : chooseExpected e s.frames.bufs = none := by rw [h]; rfl
  unfold State.selectFrame State.showExpected
  dsimp only
  repeat' split
  · exact hshow _ (hexpected _)
  · rw [State.countSlip_bufs]
    exact hshow _ (hexpected _)
  · rw [State.countSlip_bufs]
    exact hshow _ (hexpected _)
  · exact hshow _ hnewest

theorem State.Awake.takes_empty {order : List Taker} {s : State} (h : s.Awake order) (hnodup : order.Nodup)
    (hsize : ¬ s.resizesNow) (hempty : s.frames.bufs = Three.all .empty) :
    (s.takes false order).frames.bufs = Three.all .empty := by
  refine (h.takes_keep (P := fun u => u.frames.bufs = Three.all .empty ∧ ¬ u.resizesNow) hnodup ⟨hempty, hsize⟩
    fun u t hu _ hawake => ⟨?_, State.not_resizesNow_take hu.2 t⟩).1
  by_cases ht : t = .frameStore
  · subst ht
    exact State.selectFrame_empty hu.1
  · refine (congrArg FrameStore.bufs (State.take_frames hu.2 ht hawake)).trans hu.1

/-! ### The new canvas size (R9) -/

/-- R9: without a measured format, and in UNSUPPORTED, the new size changes nothing. -/
theorem State.newCanvas_of_formless {s : State}
    (h : s.acq.state = .noSignal ∨ s.acq.state = .measuring ∨ s.acq.state = .unsupported) : s.newCanvas = s := by
  rcases h with h | h | h <;> simp only [State.newCanvas, h]

theorem State.newCanvas_of_mismatch {s : State} {m : FrameRecord} (h : s.acq.state = .mismatch)
    (hm : s.acq.measured = some m) : s.newCanvas =
      (s.setTarget (Spec.targetPeriod m s.acq.controls.cadence)).moveTo (Spec.checkedState m s) [] := by
  rw [← State.formatCheck_eq hm]
  simp only [State.newCanvas, h, hm]

/-- R9: a format that fitted stays where it fits the new size, and else goes to MISMATCH. -/
theorem State.newCanvas_of_accepted {s : State} {m : FrameRecord}
    (h : s.acq.state = .awaitAccept ∨ s.acq.state.isLocked = true) (hm : s.acq.measured = some m) :
    (Spec.sizeFits m s → s.newCanvas = s) ∧ (¬ Spec.sizeFits m s → s.newCanvas = s.moveTo .mismatch []) := by
  have hcases : s.newCanvas = if s.sizeFits m then s else s.moveTo .mismatch [] := by
    rw [AcqState.isLocked_eq_true] at h
    rcases h with h | h | h <;> simp only [State.newCanvas, h, hm]
  rw [hcases, ← State.sizeFits_iff]
  exact ⟨fun hfits => if_pos hfits, fun hnot => if_neg hnot⟩

/-- R2: a change of the state's name posts the state entered with the measured format. -/
theorem State.posted_moveTo {s : State} {new : AcqState} {m : FrameRecord} (w : List FrameRecord)
    (hm : s.acq.measured = some m) (hnew : new ≠ .noSignal ∧ new ≠ .measuring) :
    State.Posted (if new = s.acq.state then [] else [.inputState new m]) s (s.moveTo new w) := by
  have hcounter : (s.moveTo new w).timer.counter = s.timer.counter :=
    congrArg Steady.counter (s.moveTo_steady new w)
  have hind := s.moveTo_ind new w
  unfold Indications.movedTo at hind
  rw [if_neg (not_or.2 hnew), hm, Option.getD_some] at hind
  split at hind
  · next hsame =>
    rw [if_pos hsame]
    exact .of_eq hind hcounter
  · next hother =>
    rw [if_neg hother]
    exact (State.says_post hind hcounter).posted

/-- R9, R142, R145: the records of a swap that changes the canvas size, by those of the new size. -/
theorem State.swap_posted_of_moved {s : State} {moved : List IndBody}
    (hdiffers : s.active.scene.canvasDiffers s.pendingBank.scene = true)
    (h : State.Posted moved s.rolesSwapped s.rolesSwapped.newCanvas) :
    State.Posted (.bankSwapped (s.banks.revision + 1) ::
      (moved ++ if s.mode.mode = .setup then [.modeChange .run] else [])) s s.swap := by
  have hswapped : State.Posted [.bankSwapped (s.banks.revision + 1)] s s.rolesSwapped :=
    (State.posted_post { s with banks := s.banks.swapped } _).after_eq rfl rfl
  have hmode : State.Posted (if s.mode.mode = .setup then [.modeChange .run] else [])
      s.rolesSwapped.canvasChanged s.rolesSwapped.canvasChanged.leaveSetup := by
    have hsame : s.rolesSwapped.canvasChanged.mode = s.mode := by
      simp [State.rolesSwapped]
    unfold State.leaveSetup
    rw [hsame]
    split
    · exact State.posted_changeMode _ .run
    · exact .of_eq rfl rfl
  rw [State.swap_eq, if_pos hdiffers]
  exact hswapped.trans ((h.then_eq (u := s.rolesSwapped.canvasChanged) rfl rfl).trans hmode)

/-! ### The start around the swap -/

/-- The state in which the new canvas size is taken: the roles are exchanged. -/
structure State.Found (s : State) (env : Env) (v : State) : Prop where
  banks    : v.banks = s.banks.swapped
  controls : v.acq.controls = s.acq.controls
  unpaired : ¬ s.canPair → v.acq = s.acq
  locked   : s.acq.state.isLocked = true → v.acq.state.isLocked = true ∧ v.acq.measured = s.acq.measured
  after    : (s.walked env).banks = v.banks ∧ (s.walked env).acq.controls = v.acq.controls
  empty    : (s.walked env).frames.bufs = Three.all .empty
  stays    : ¬ v.newCanvas.canPair →
    (s.walked env).acq = v.canvasChanged.acq ∧ (s.walked env).timer = v.canvasChanged.timer
  posts    : ∀ moved, State.Posted moved v v.newCanvas → moved.length ≤ 1 → ∃ first last,
    State.Posted (first ++ moved ++ last) (s.begun.linked env) (s.walked env) ∧
    (first ++ moved ++ last).length ≤ 16 ∧ (¬ s.canPair → ∀ b ∈ first, NoInputState b) ∧
    (¬ v.newCanvas.canPair → ∀ b ∈ last, NoInputState b)

theorem State.walked_found {s : State} (env : Env) (hfollows : s.mode.mode = .dimming → s.TargetFollows)
    (hsleeps : Spec.sleeps s = false) (hsize : s.resizesNow) : ∃ v, State.Found s env v := by
  obtain ⟨before, after, horder, hbefore, hafter⟩ := takeOrder_split env.order .bank
  have hnodup := takeOrder_nodup env.order
  have hawake := State.begun_awake hfollows hsleeps env (takeOrder env.order)
  have hroom := walkRoom_takeOrder env.order
  obtain ⟨-, -, -, -, hacqs, hbankss, hprofiless, -, -, -, -⟩ := s.begun_linked env
  rw [horder] at hnodup hawake hroom
  have hturn := hawake.takes hnodup false
  have hrest := hturn.take hafter false
  rw [List.nodup_append, List.nodup_cons] at hnodup
  obtain ⟨hnodupBefore, ⟨-, hnodupAfter⟩, -⟩ := hnodup
  have hsizeTurn : ((s.begun.linked env).takes false before).resizesNow :=
    (State.resizesNow_congr ((State.takes_banks_before hbefore).1.trans hbankss)
      ((State.takeAll_frame false before _).2.1.trans hprofiless)).2 hsize
  have hcontrols := congrArg Lasting.controls (State.takes_lasting (s.begun.linked env) before)
  have hunpaired (hpair : ¬ s.canPair) := hawake.append_left.takes_unpaired hnodupBefore hbefore
    (by rw [State.canPair, hacqs]; exact hpair)
  have hlocked (hstate : s.acq.state.isLocked = true) := hawake.append_left.takes_measured hnodupBefore hbefore
    (by rw [hacqs]; exact hstate)
  obtain ⟨first, hfirst, hfewFirst, hkindsFirst⟩ := hawake.append_left.takes_records hnodupBefore hbefore
  have hbanks := ((State.takes_banks_before (s := s.begun.linked env) hbefore).1).trans hbankss
  have hwalked : s.walked env = ((((s.begun.linked env).takes false before).take false .bank).retarget).takes false
      after := by
    rw [State.walked, horder, State.takes_append, State.takes_cons]
  rw [hacqs] at hunpaired hlocked
  have hpairs : (s.begun.linked env).canPair ↔ s.canPair := by rw [State.canPair, State.canPair, hacqs]
  rw [hpairs] at hkindsFirst
  generalize (s.begun.linked env).takes false before = u at *
  have hswap : u.take false .bank = u.rolesSwapped.canvasChanged.leaveSetup := by
    rw [State.take, State.bankStart, if_pos hsizeTurn.1, State.swap_eq, if_pos hsizeTurn.2]
  obtain ⟨hacq, hframes, htimer, hbanks'⟩ := u.rolesSwapped.canvasChanged.leaveSetup_kept
  rw [← hswap] at hacq hframes htimer hbanks'
  have hroles : u.rolesSwapped.banks = s.banks.swapped := by rw [State.rolesSwapped_eq, ← hbanks]
  have hdone : ¬ (u.take false .bank).retarget.resizesNow := by
    have hnone : (u.take false .bank).retarget.swapDue = false :=
      State.not_swapDue_of_swapped (s := u) (by simp [hbanks', State.rolesSwapped_eq])
    exact fun hres => by simp [hres.1] at hnone
  have hpairs' : (u.take false .bank).retarget.canPair ↔ u.rolesSwapped.newCanvas.canPair := by
    rw [State.canPair, State.retarget_acq, hacq]
    exact Iff.rfl
  have hstays (hpair : ¬ u.rolesSwapped.newCanvas.canPair) := hrest.takes_unpaired hnodupAfter hafter
    (mt hpairs'.1 hpair)
  obtain ⟨last, hlast, hfewLast, hkindsLast⟩ := hrest.takes_records hnodupAfter hafter
  rw [hpairs'] at hkindsLast
  refine ⟨u.rolesSwapped, hroles, ?_, fun hpair => ?_, fun hstate => ?_, ⟨?_, ?_⟩, ?_,
    fun hpair => ?_, fun moved hmoved hfew => ?_⟩
  · rw [State.rolesSwapped_eq]
    exact hcontrols.trans (congrArg Acquisition.controls hacqs)
  · rw [State.rolesSwapped_eq]
    exact (hunpaired hpair).1
  · rw [State.rolesSwapped_eq]
    exact hlocked hstate
  · rw [hroles, ← hbanks, hwalked, State.takes_banks_before hafter |>.1, State.retarget_banks, hbanks']
    simp [State.rolesSwapped_eq]
  · rw [State.rolesSwapped_eq, (s.walked_registers env).2.2.2.2.2.2.2.2.1]
    exact (hcontrols.trans (congrArg Acquisition.controls hacqs)).symm
  · rw [hwalked]
    exact hrest.takes_empty hnodupAfter hdone (by rw [State.retarget_frames, hframes]; rfl)
  · obtain ⟨hacq', htimer', -⟩ := hstays hpair
    rw [hwalked]
    exact ⟨hacq'.trans hacq, htimer'.trans htimer⟩
  · have hown := State.swap_posted_of_moved hsizeTurn.2 hmoved
    rw [State.swap_eq, if_pos hsizeTurn.2, ← hswap] at hown
    have hall := (hfirst.trans (hown.then_eq (u := (u.take false .bank).retarget) rfl rfl)).trans hlast
    rw [← hwalked] at hall
    generalize hmode : (if u.mode.mode = .setup then [IndBody.modeChange .run] else []) = mode at hall
    have hmodes : mode.length ≤ 1 ∧ ∀ b ∈ mode, NoInputState b := by
      rw [← hmode]
      split <;> simp [NoInputState, Spec.ofKind, IndBody.kindCode]
    refine ⟨first ++ [.bankSwapped (u.banks.revision + 1)], mode ++ last, ?_, ?_, fun hpair => ?_, fun hpair => ?_⟩
    · simpa using hall
    · have hbank : walkRoom (.bank :: after) = 3 + walkRoom after := by simp [walkRoom, recordRoom]
      rw [walkRoom_append, hbank] at hroom
      simp only [List.length_append, List.length_singleton]
      omega
    · simpa [or_imp, forall_and, NoInputState, Spec.ofKind, IndBody.kindCode] using hkindsFirst hpair
    · simpa [or_imp, forall_and] using And.intro hmodes.2 (hkindsLast hpair)

section Found

variable {s v : State} {env : Env}

/-- R2: the records of an acquisition state, where no pair comes before or after the new size. -/
theorem State.Found.posted (h : State.Found s env v) (hpair : ¬ s.canPair) (hpair' : ¬ v.newCanvas.canPair)
    {moved : List IndBody} (hmoved : State.Posted moved v v.newCanvas) (hfew : moved.length ≤ 1)
    (hkinds : ∀ b ∈ moved, b.IsInputState) :
    Spec.Posts (s.timer.counter + 1) 0 (Spec.ofKind 0) moved s (s.walked env) := by
  obtain ⟨first, last, hposted, hall, hfirst, hlast⟩ := h.posts moved hmoved hfew
  have hnone {l : List IndBody} (hl : ∀ b ∈ l, NoInputState b) : l.filter (Spec.ofKind 0) = [] :=
    List.filter_eq_nil_iff.2 fun b hb => by simpa [NoInputState] using hl b hb
  have hown : moved.filter (Spec.ofKind 0) = moved :=
    List.filter_eq_self.2 fun b hb => by
      obtain ⟨st, format, rfl⟩ := hkinds b hb
      rfl
  have hfilter : (first ++ moved ++ last).filter (Spec.ofKind 0) = moved := by
    rw [List.filter_append, List.filter_append, hnone (hfirst hpair), hnone (hlast hpair'), hown, List.nil_append,
      List.append_nil]
  have hposts := State.walked_posts hposted hall fun b => Spec.kindCode_of_ofKind (kind := 0) (b := b)
  rwa [hfilter] at hposts

/-- R2, R184: the record of a new state, among the others of the start. -/
theorem State.Found.record (h : State.Found s env v) {b : IndBody} (hmoved : State.Posted [b] v v.newCanvas)
    (hroom : s.ind.queue.length ≤ 16) (hmask : s.ind.mask.toNat.testBit b.kindCode = false) :
    ⟨b, s.timer.counter + 1⟩ ∈ (s.walked env).ind.queue.drop s.ind.queue.length := by
  obtain ⟨first, last, hposted, hall, -⟩ := h.posts [b] hmoved (Nat.le_refl _)
  obtain ⟨-, -, hind, -⟩ := s.begun_linked env
  obtain ⟨hqueue, -⟩ := hposted.1.queue_eq (by rw [hind]; omega)
  rw [hqueue, hind, List.drop_left, s.begun_counter]
  exact List.mem_map.2 ⟨b, List.mem_filter.2 ⟨by simp, by simp [hmask]⟩, rfl⟩

theorem State.Found.sizeFits (h : State.Found s env v) (m : FrameRecord) :
    Spec.sizeFits m (s.walked env) ↔ Spec.sizeFits m v := by
  rw [Spec.sizeFits, Spec.sizeFits, State.active_of_banks h.after.1]

theorem State.Found.checkedState (h : State.Found s env v) (m : FrameRecord) :
    Spec.checkedState m (s.walked env) = Spec.checkedState m v := by
  rw [Spec.checkedState, Spec.checkedState, State.active_of_banks h.after.1, h.after.2]

/-- R9: the new size changes nothing. -/
theorem State.Found.unmoved (h : State.Found s env v) (hpair : ¬ s.canPair) (hsame : v.newCanvas = v) :
    (s.walked env).acq.state = s.acq.state ∧
      Spec.Posts (s.timer.counter + 1) 0 (Spec.ofKind 0) [] s (s.walked env) := by
  have hacq := h.unpaired hpair
  have hpair' : ¬ v.newCanvas.canPair := by
    rw [hsame, State.canPair, hacq]
    exact hpair
  refine ⟨?_, h.posted hpair hpair' (by rw [hsame]; exact .of_eq rfl rfl) (by simp) (by simp)⟩
  rw [(h.stays hpair').1, ← hacq]
  refine (show _ = v.newCanvas.acq.state from rfl).trans ?_
  rw [hsame]

end Found

/-- R7, R11: the format check, taken again from outside the locked states. -/
theorem State.moveTo_checked {s : State} (hstate : s.acq.state.isLocked = false) {new : AcqState}
    (hnew : new = .unsupported ∨ new = .mismatch ∨ new = .awaitAccept ∨ new = .locking) :
    (s.moveTo new []).acq.state = new ∧ (s.moveTo new []).acq.target = s.acq.target ∧
    ¬ (s.moveTo new []).canPair ∧
    (new = .locking → (s.moveTo new []).acq.alignDue = true ∧ (s.moveTo new []).timer.mode = .follow ∧
      (s.moveTo new []).acq.acqTimer = Spec.limitTimer s.acq.controls ∧
      (s.moveTo new []).acq.holdTimer = none) := by
  have hout {new : AcqState} (hnew : new.isLocked = false) : (s.moveTo new []).acq = s.acq.enter new [] := by
    rw [State.moveTo_out _ _ hnew, Spec.leaving_of_unlocked hstate]
  rcases hnew with rfl | rfl | rfl | rfl
  · rw [State.canPair, hout rfl]
    exact ⟨rfl, rfl, by simp [Acquisition.enter, AcqState.isLocked], nofun⟩
  · rw [State.canPair, hout rfl]
    exact ⟨rfl, rfl, by simp [Acquisition.enter, AcqState.isLocked], nofun⟩
  · rw [State.canPair, hout rfl]
    exact ⟨rfl, rfl, by simp [Acquisition.enter, AcqState.isLocked], nofun⟩
  · rw [State.canPair, State.moveTo_in _ _ rfl, if_pos ⟨rfl, hstate⟩]
    exact ⟨rfl, rfl, by simp [Acquisition.enter], fun _ => ⟨rfl, rfl, AcqLimit.start_eq _, rfl⟩⟩

/-- R3, R9: the fall out of the locked states to MISMATCH. -/
theorem State.moveTo_mismatch_of_locked {s : State} (h : s.acq.state.isLocked = true) :
    (s.moveTo .mismatch []).acq.state = .mismatch ∧ (s.moveTo .mismatch []).timer.mode = .free ∧
    (s.moveTo .mismatch []).timer.staged = s.timer.current ∧ (s.moveTo .mismatch []).timer.current = s.timer.current ∧
    (s.moveTo .mismatch []).acq.good = 0 ∧ (s.moveTo .mismatch []).acq.bad = 0 ∧
    (s.moveTo .mismatch []).acq.waitCadence = none ∧ (s.moveTo .mismatch []).acq.waitStart = none ∧
    (s.moveTo .mismatch []).acq.alignDue = false ∧ (s.moveTo .mismatch []).acq.acqTimer = none ∧
    (s.moveTo .mismatch []).acq.holdTimer =
      (if s.acq.controls.hold = 0 then none else some s.acq.controls.hold) := by
  rw [State.moveTo_out _ _ rfl, Spec.leaving, if_pos ((AcqState.isLocked_eq_true _).1 h)]
  exact ⟨rfl, rfl, rfl, rfl, rfl, rfl, rfl, rfl, rfl, rfl, rfl⟩

/-- R9, R29, R3: the acquisition state after a swap that changes the canvas size. -/
theorem State.walked_resized {s : State} (env : Env) (hfollows : s.TargetFollows) (hresizes : Spec.resizes s = true)
    (hsleeps : Spec.sleeps s = false) : Spec.Resized s (s.walked env) := by
  obtain ⟨v, hv⟩ := State.walked_found env (fun _ => hfollows) hsleeps ((Spec.resizes_iff s).1 hresizes)
  have hunpaired {st : AcqState} (hstate : s.acq.state = st) (hst : st.isLocked = false) : ¬ s.canPair := by
    rw [State.canPair, hstate, hst]
    simp
  refine ⟨hv.empty, fun hformless => ?_, fun m hm =>
    ⟨fun hmismatch => ?_, fun hawait => ?_, fun hlocked hnot => ?_⟩⟩
  · have hpair : ¬ s.canPair := by rcases hformless with h | h | h <;> exact hunpaired h rfl
    exact hv.unmoved hpair (State.newCanvas_of_formless (by rw [hv.unpaired hpair]; exact hformless))
  · have hpair := hunpaired hmismatch rfl
    have hacq := hv.unpaired hpair
    have hm' : v.acq.measured = some m := by rw [hacq, hm]
    have hnew := State.newCanvas_of_mismatch (by rw [hacq, hmismatch]) hm'
    have hstate : (v.setTarget (Spec.targetPeriod m v.acq.controls.cadence)).acq.state = .mismatch := by
      show v.acq.state = _
      rw [hacq, hmismatch]
    obtain ⟨hto, htarget, hpair', hlocking⟩ := State.moveTo_checked
      (s := v.setTarget (Spec.targetPeriod m v.acq.controls.cadence)) (by rw [hstate]; rfl) (Spec.checkedState_cases m v)
    have hposted := State.posted_moveTo (s := v.setTarget (Spec.targetPeriod m v.acq.controls.cadence))
      (new := Spec.checkedState m v) [] hm' (by rcases Spec.checkedState_cases m v with h | h | h | h <;> simp [h])
    rw [← hnew] at hto htarget hpair' hlocking hposted
    obtain ⟨hwalked, htimer⟩ := hv.stays hpair'
    have hstate' : (s.walked env).acq.state = Spec.checkedState m v := by
      rw [hwalked]
      exact hto
    rw [hv.checkedState, hstate', hwalked, htimer]
    refine ⟨rfl, ?_, fun h => ?_, ?_⟩
    · rw [← hv.controls]
      exact htarget
    · rw [← hv.controls]
      exact hlocking h
    · rw [hstate] at hposted
      refine hv.posted hpair hpair' (hposted.after_eq rfl rfl) (by split <;> simp) fun b hb => ?_
      split at hb
      · cases hb
      · exact ⟨_, _, List.mem_singleton.1 hb⟩
  · have hpair := hunpaired hawait rfl
    have hacq := hv.unpaired hpair
    obtain ⟨hfits, hnot⟩ := State.newCanvas_of_accepted (s := v) (m := m)
      (.inl (by rw [hacq, hawait])) (by rw [hacq, hm])
    rw [hv.sizeFits]
    refine ⟨fun hsize => ?_, fun hsize => ?_⟩
    · rw [← hawait]
      exact hv.unmoved hpair (hfits hsize)
    · have hnew := hnot hsize
      obtain ⟨hto, -, hpair', -⟩ := State.moveTo_checked (s := v) (by rw [hacq, hawait]; rfl) (.inr (.inl rfl))
      have hposted := State.posted_moveTo (s := v) (new := .mismatch) (m := m) [] (by rw [hacq, hm]) (by simp)
      rw [if_neg (by rw [hacq, hawait]; simp)] at hposted
      rw [← hnew] at hto hpair' hposted
      obtain ⟨hwalked, -⟩ := hv.stays hpair'
      refine ⟨by rw [hwalked]; exact hto, ?_,
        hv.posted hpair hpair' hposted (by simp) fun b hb => ⟨_, _, List.mem_singleton.1 hb⟩⟩
      rw [hwalked]
      refine (show _ = v.newCanvas.acq.acqTimer from rfl).trans ?_
      rw [hnew, State.moveTo_out _ _ rfl]
      rfl
  · rw [hv.sizeFits] at hnot
    obtain ⟨hstate, hmeasured⟩ := hv.locked ((AcqState.isLocked_eq_true _).2 hlocked)
    have hm' := hmeasured.trans hm
    have hnew := (State.newCanvas_of_accepted (.inr hstate) hm').2 hnot
    obtain ⟨hto, hmode, hstaged, hcurrent, hgood, hbad, hcadence, hstart, hdue, hlimit, hhold⟩ :=
      State.moveTo_mismatch_of_locked hstate
    have hposted := State.posted_moveTo (new := .mismatch) [] hm' (by simp)
    rw [if_neg fun h => by simp [← h, AcqState.isLocked] at hstate] at hposted
    rw [← hnew] at hto hmode hstaged hcurrent hgood hbad hcadence hstart hdue hlimit hhold hposted
    have hpair' : ¬ v.newCanvas.canPair := by simp [State.canPair, hto, AcqState.isLocked]
    obtain ⟨hwalked, htimer⟩ := hv.stays hpair'
    have hwriting : (s.walked env).writing? = none := by
      rw [State.writing?, hwalked]
      exact v.canvasChanged_not_writing
    rw [← hv.controls, hwriting, hwalked, htimer]
    exact ⟨hto, hmode, hstaged.trans hcurrent.symm, hgood, hbad, hcadence, hstart, hdue, hlimit, rfl, hhold,
      fun hroom hmask => hv.record hposted hroom hmask⟩

end Sys2Proof.Machine
end

section
/-! PROOFS. Chapters 2, 5 and 7, the timer's own start (R34 to R41, R97, R141). -/

namespace Sys2Proof.Machine

/-! ### The master level (R40, R41) -/

/-- R40: with no swap due and no ALL_BLACK policy the level takes one step toward the target. -/
theorem State.walked_level {s : State} (env : Env) (hfollows : s.TargetFollows) (hquiet : s.Quiet)
    (hpolicies : ∀ k, (s.chans.get k).controls.policy ≠ .allBlack) :
    (s.walked env).mode = s.mode ∧ (s.walked env).master.target = s.master.target ∧
      (s.walked env).master.level = s.master.next := by
  obtain ⟨hchans, hmodes, -, hmaster, hacq, -, -, -, -, hdue, -⟩ := s.begun_linked env
  have hsame : (s.begun.linked env).targetOf = s.targetOf := by
    unfold State.targetOf State.pictureAllowed
    rw [hchans, hmodes, hmaster, hacq]
  have hwalk (order : List Taker) := State.SameTarget.takes (s := s.begun.linked env)
    ⟨by rw [hmodes]; exact hquiet.1, hdue.trans hquiet.2⟩
    ((congrArg Master.target hmaster).trans (hfollows.trans hsame.symm)) (by rw [hchans]; exact hpolicies) order
  have htarget (order : List Taker) : ((s.begun.linked env).takes false order).master.target = s.master.target :=
    (hwalk order).target.trans (hsame.trans hfollows.symm)
  obtain ⟨before, after, -, hnot, hlevel⟩ := (State.awake_of_mode (order := takeOrder env.order)
    (s := s.begun.linked env) (by rw [hmodes]; exact hquiet.1)).takes_level (takeOrder_nodup _) (mem_takeOrder _ _)
  obtain ⟨hbefore, hstep⟩ := State.takes_level_before (s := s.begun.linked env) hnot
  rw [hmaster] at hbefore hstep
  refine ⟨(hwalk _).mode.trans hmodes, htarget _, hlevel.trans ?_⟩
  rw [Master.next_eq, Master.next_eq, htarget, hbefore, hstep]

/-- R41: a start of a DIMMING that does not bring the level to 0. -/
theorem State.walked_dimming {s : State} (env : Env) (hfollows : s.TargetFollows) (hdimming : s.mode.mode = .dimming)
    (habove : s.master.step < s.master.level) :
    (s.walked env).mode = s.mode ∧ (s.walked env).master.level = s.master.level - s.master.step := by
  obtain ⟨-, hmodes, -, hmaster, -⟩ := s.begun_linked env
  have hsleeps : Spec.sleeps s = false := by
    rw [← Bool.not_eq_true, Spec.sleeps_iff]
    exact fun h => absurd h.2 (not_le.2 habove)
  have hnodup := takeOrder_nodup env.order
  have hawake := State.begun_awake (fun _ => hfollows) hsleeps env (takeOrder env.order)
  obtain ⟨before, after, horder, hnot, hlevel⟩ := hawake.takes_level hnodup (mem_takeOrder _ _)
  obtain ⟨hbefore, hstep⟩ := State.takes_level_before (s := s.begun.linked env) hnot
  rw [horder] at hnodup hawake
  have hmode := hawake.append_left.takes_mode hnodup.of_append_left false
  rw [if_neg fun hall => by simp [hmodes, hdimming] at hall, hmodes] at hmode
  obtain ⟨htarget, -⟩ := hawake.takes hnodup false (by rw [hmode, hdimming]) List.mem_cons_self
  rw [hmaster] at hbefore hstep
  refine ⟨?_, hlevel.trans ?_⟩
  · rw [State.walked_mode (fun _ => hfollows) hsleeps, if_neg fun hall => by simp [hdimming] at hall]
  · rw [Master.next_of_target_zero htarget, hbefore, hstep]

/-! ### The probe (R97) -/

theorem State.probeServe_eq (s : State) : ∃ p, s.probeServe = { s with probe := p } := by
  unfold State.probeServe
  split
  · exact ⟨_, rfl⟩
  · exact ⟨s.probe, rfl⟩

theorem State.probeServe_waiting {s : State} {k : Output} {u v : Nat} (h : s.probe = .waiting k u v) :
    s.probeServe.probe = .ready (s.probeServe.probeResult k u v) := by
  unfold State.probeServe
  rw [h]
  rfl

theorem State.probeServe_idle {s : State} (h : ∀ k u v, s.probe ≠ .waiting k u v) : s.probeServe = s := by
  unfold State.probeServe
  split
  · next k u v hwait => exact absurd hwait (h k u v)
  · rfl

theorem State.walked_probe (s : State) (env : Env) : (s.walked env).probe = s.probe :=
  (State.takeAll_frame false _ _).2.2.2.1.trans (s.begun_linked env).2.2.2.2.2.2.2.1

/-! ### The banks (R141) -/

theorem State.swapDue_iff (s : State) :
    s.swapDue = true ↔ s.banks.pendState = .armed ∧ ∀ n p d, s.profiles.ctl ≠ .storing n p d := by
  unfold State.swapDue Ctl.isStoring
  cases s.profiles.ctl <;> simp

theorem State.swapDue_eq_false_iff (s : State) :
    s.swapDue = false ↔ s.banks.pendState ≠ .armed ∨ ∃ n p d, s.profiles.ctl = .storing n p d := by
  rw [← Bool.not_eq_true, State.swapDue_iff]
  simp [imp_iff_not_or]

theorem State.begun_mem (s : State) : s.begun.frames.mem = s.frames.mem := by
  unfold State.begun State.handBase
  split <;> rfl

/-- R10: the group base over the start. -/
theorem State.walked_baseHanded (s : State) (env : Env) : Spec.BaseHanded s (s.walked env) := by
  obtain ⟨-, -, -, hposition, -, -, hbase, -⟩ := s.walked_registers env
  obtain ⟨hhanded, hnone⟩ := s.groupBase_handed
  unfold Spec.BaseHanded
  rw [hbase, hposition, State.begun_base]
  refine ⟨fun h => if_neg h, fun h => ?_⟩
  rw [if_pos h]
  exact ⟨hhanded, hnone⟩

/-- R41, R167: a start that brings the level of a DIMMING to 0. -/
theorem State.delivered_asleep {s : State} (env : Env) (hfollows : s.TargetFollows) (hdimming : s.mode.mode = .dimming)
    (hlevel : s.master.level ≤ s.master.step) :
    (s.walked env).probeServe.mode = { s.mode with mode := .standby } ∧ (s.walked env).probeServe.Dark := by
  obtain ⟨-, -, -, -, -, -, hmode⟩ :=
    State.walked_asleep (env := env) hfollows ((Spec.sleeps_iff s).2 ⟨hdimming, hlevel⟩)
  have hstandby : (s.walked env).probeServe.mode = { s.mode with mode := .standby } := by simpa using hmode
  exact ⟨hstandby, State.deliver_standbyDark (s := s.begun) (by simp [hdimming]) false env
    (congrArg ModeState.mode hstandby)⟩

/-- Settles O58: what each taker of the timer's own start does, in any order of the takers. -/
theorem frameStartMovesTheTimerTheLevelAndTheBanks :
    Obligations.FrameStartMovesTheTimerTheLevelAndTheBanks := by
  intro s env
  refine ⟨exec_presentationFrameStart_stopped env, fun hrunning =>
    ⟨s.begun.deliver false env, exec_presentationFrameStart env hrunning, ?_⟩⟩
  have hbanks := s.begun.deliver_banks false env
  have hdue : s.begun.swapDue = s.swapDue := State.swapDue_of_eq (by simp) (by simp)
  obtain ⟨hprofiles, hlink, hfree, -⟩ := s.begun.deliver_frame false env
  have hpins := s.begun.deliver_pins false env
  have hmem := (s.begun.deliver_mem false env).trans s.begun_mem
  have hfollows := s.begun.deliver_follows false env
  have hmode (h : s.mode.mode ≠ .dimming) := State.deliver_mode (s := s.begun) false env (by simpa using h)
  have hserved (k : Output) (u v : Nat) (h : s.probe = .waiting k u v) :=
    State.probeServe_waiting ((s.walked_probe env).trans h)
  have hidle (h : ∀ k u v, s.probe ≠ .waiting k u v) : (s.walked env).probeServe.probe = s.probe := by
    rw [State.probeServe_idle (by rw [s.walked_probe env]; exact h), s.walked_probe env]
  have hasleep := State.delivered_asleep (s := s) env
  simp only [hdue, State.begun_frame] at hbanks hmode hprofiles hlink hfree hpins
  rw [State.begun_deliver] at hbanks hprofiles hlink hfree hpins hmem hfollows hmode ⊢
  obtain ⟨p, hp⟩ := (s.walked env).probeServe_eq
  rw [hp] at hbanks hprofiles hlink hfree hpins hmem hfollows hmode hserved hidle hasleep ⊢
  obtain ⟨hcurrent, hfreePeriod, hcounter, hposition, hlast, hnumber, -, -, -, hstep, hmute⟩ := s.walked_registers env
  refine ⟨hcurrent, hfreePeriod, hcounter, hposition, hlast, hpins, hlink, hprofiles, hmem, hnumber, hfree,
    fun harmed hstoring => ?_, fun hstays => ?_, hserved, hidle, hstep, hmute, hfollows,
    fun htarget hdimming hnot hpolicies => ?_, fun htarget hdimming => ⟨fun hlevel => ?_, fun hlevel => ?_⟩,
    fun hlocked hdone hdimming hnot hzero p point hperiod hpoint hwait => ?_, s.walked_baseHanded env,
    fun htarget => ⟨State.walked_selection env htarget, State.walked_resized env htarget,
      State.walked_startRecords htarget env⟩⟩
  · have hswap := (s.swapDue_iff).2 ⟨harmed, hstoring⟩
    rw [if_pos hswap] at hbanks
    refine ⟨hbanks, fun hsetup => ?_⟩
    rw [hmode (by simp [hsetup]), if_pos ⟨hswap, hsetup⟩]
  · rw [if_neg (by simp [(s.swapDue_eq_false_iff).2 hstays])] at hbanks
    exact hbanks
  · obtain ⟨hmode', htarget', hlevel⟩ := State.walked_level env htarget
      ⟨hdimming, (s.swapDue_eq_false_iff).2 (.inl hnot)⟩ hpolicies
    rw [Master.next_eq] at hlevel
    exact ⟨hmode', htarget', hlevel⟩
  · obtain ⟨hmode', hdark⟩ := hasleep htarget hdimming hlevel
    exact ⟨hmode', hdark, hdark.level⟩
  · exact State.walked_dimming env htarget hdimming hlevel
  · obtain ⟨-, hmodes, -, -, hacq, -, -, -, -, hdue', htimer⟩ := s.begun_linked env
    rw [hposition] at hzero
    have hpair := State.Quiet.takes_pair (s := s.begun.linked env) (p := p) (point := point)
      ⟨by rw [hmodes]; exact hdimming, hdue'.trans ((s.swapDue_eq_false_iff).2 (.inl hnot))⟩
      (takeOrder_nodup env.order) (mem_takeOrder _ _) (by rw [hacq, AcqState.isLocked_eq_true]; exact hlocked)
      (by rw [hacq]; exact hdone) (by rw [htimer, State.begun_timer]; exact hzero) (by rw [hacq]; exact hperiod)
      (by rw [hacq]; exact hpoint) (by rw [hacq]; exact hwait)
    rw [hacq, htimer, State.begun_timer] at hpair
    exact hpair

end Sys2Proof.Machine
end
